-- ==== Sys2Proof/Word.lean ====
section
/-! DEFINITION. The words the spec speaks of: every value is an unsigned integer of a stated width, bit 0 the least
significant (spec/00_scope.md R12). No signed value exists in this hardware. -/

namespace Sys2Proof

/-- One byte: a register of 8 bits, a fed byte, a module-ID field (R6 `MODFIELD_WIDTH`). -/
abbrev Byte := BitVec 8

/-- A 16-bit register or operand (`PARAM[k]`, `CRC`). -/
abbrev Half := BitVec 16

/-- A 32-bit operand `arg` or result `res` (R10). -/
abbrev Word := BitVec 32

/-- An 11-bit base ID, the message type (R6 `BASE_WIDTH`, R100). -/
abbrev BaseId := BitVec 11

/-- A 29-bit extended identifier (R6 `ID_WIDTH`, R100). -/
abbrev ExtId := BitVec 29

/-- One 40-bit command word `cw`: `op` in bits 39..32, `arg` in bits 31..0 (spec/30_encoding.md R70). -/
abbrev CmdWord := BitVec 40

end Sys2Proof
end

