-- ==== Sys2Proof/Syntax.lean ====
section
/-! DEFINITION. The abstract syntax: the thirteen operand formats of spec/30_encoding.md R72, each a structure of its
fields, and `Instr`, one constructor per row of spec/opcode_table.json (the 35 commands of R74).

A format's must-be-zero bits are FIELDS of it: a decoder selects the command by `op` alone, and the must-be-zero bits
"are checked by the command" (R74, R76), so an instruction must still hold them when it runs. The ignored bits of
format X are a field for the same reason: the word a decoder read can be written back bit for bit. -/

namespace Sys2Proof

/-- Format Z: `31..0` mbz. -/
structure ArgZ where
  mbz : BitVec 32
  deriving DecidableEq, Repr

/-- Format B: `7..0 v`; `31..8` mbz. -/
structure ArgB where
  v : Byte
  mbz : BitVec 24
  deriving DecidableEq, Repr

/-- Format H: `15..0 v`; `31..16` mbz. -/
structure ArgH where
  v : Half
  mbz : BitVec 16
  deriving DecidableEq, Repr

/-- Format W: four bytes, `b0` in the low end. Every value is legal. -/
structure ArgW where
  b0 : Byte
  b1 : Byte
  b2 : Byte
  b3 : Byte
  deriving DecidableEq, Repr

/-- Format X: `28..0 ext_id`; `31..29` ignored (R77). -/
structure ArgX where
  extId : ExtId
  ign : BitVec 3
  deriving DecidableEq, Repr

/-- Format ES: `7..0 modfield`; `18..8 base`; `31..19` mbz. -/
structure ArgES where
  modfield : Byte
  base : BaseId
  mbz : BitVec 13
  deriving DecidableEq, Repr

/-- Format ED: the low 17 bits of an SD data identifier (R103); `31..17` mbz. -/
structure ArgED where
  moduleId : Byte
  transferId : BitVec 2
  chunkNum : BitVec 4
  windowId : BitVec 2
  lastChunk : BitVec 1
  mbz : BitVec 15
  deriving DecidableEq, Repr

/-- Format EK: `7..0 low`; `10..8 chunk`; `21..11 base`; `31..22` mbz. -/
structure ArgEK where
  low : Byte
  chunk : BitVec 3
  base : BaseId
  mbz : BitVec 10
  deriving DecidableEq, Repr

/-- Format RS: `7..0 target`; `9..8 state`; `31..10` mbz. -/
structure ArgRS where
  target : Byte
  state : BitVec 2
  mbz : BitVec 22
  deriving DecidableEq, Repr

/-- Format RC: `7..0 module`; `15..8 cell`; `31..16` mbz. -/
structure ArgRC where
  moduleId : Byte
  cell : Byte
  mbz : BitVec 16
  deriving DecidableEq, Repr

/-- Format T: `0 tx_ready`; `31..1` mbz. -/
structure ArgT where
  txReady : BitVec 1
  mbz : BitVec 31
  deriving DecidableEq, Repr

/-- Format CR: `3..0 index`; `31..4` mbz. -/
structure ArgCR where
  index : BitVec 4
  mbz : BitVec 28
  deriving DecidableEq, Repr

/-- Format CW: `3..0 index`; `7..4` mbz; `15..8 value`; `31..16` mbz. -/
structure ArgCW where
  index : BitVec 4
  mbzLo : BitVec 4
  value : Byte
  mbz : BitVec 16
  deriving DecidableEq, Repr

/-- The 35 commands of R74, in the opcode map's order. -/
inductive Instr where
  /-- `NOP`, R230. -/
  | nop (a : ArgZ)
  /-- `CSR_READ`, R231. -/
  | csrRead (a : ArgCR)
  /-- `CSR_WRITE`, R232. -/
  | csrWrite (a : ArgCW)
  /-- `SOFT_RESET`, R233. -/
  | softReset (a : ArgZ)
  /-- `ENC_STD`, R108. -/
  | encStd (a : ArgES)
  /-- `ENC_SD`, R109. -/
  | encSd (a : ArgED)
  /-- `ENC_KEY`, R110. -/
  | encKey (a : ArgEK)
  /-- `DEC_STD`, R112. -/
  | decStd (a : ArgX)
  /-- `DEC_SD`, R113. -/
  | decSd (a : ArgX)
  /-- `DEC_KEY`, R114. -/
  | decKey (a : ArgX)
  /-- `MID_CLASS`, R115. -/
  | midClass (a : ArgB)
  /-- `REQ_STATE`, R146. -/
  | reqState (a : ArgRS)
  /-- `REQ_HEARTBEAT`, R147. -/
  | reqHeartbeat (a : ArgB)
  /-- `REQ_CELL`, R148. -/
  | reqCell (a : ArgRC)
  /-- `REQ_STATUS`, R149. -/
  | reqStatus (a : ArgB)
  /-- `REQ_REGACK`, R150. -/
  | reqRegack (a : ArgB)
  /-- `REQ_TIMESYNC`, R151. -/
  | reqTimesync (a : ArgZ)
  /-- `REQ_ANNOUNCE`, R152. -/
  | reqAnnounce (a : ArgZ)
  /-- `ARB_TICK`, R154. -/
  | arbTick (a : ArgT)
  /-- `AWAIT_CLR_STATUS`, R156. -/
  | awaitClrStatus (a : ArgB)
  /-- `AWAIT_CLR_CELL`, R157. -/
  | awaitClrCell (a : ArgB)
  /-- `AWAIT_CLR_MODULE`, R158. -/
  | awaitClrModule (a : ArgB)
  /-- `LINK_DOWN`, R160. -/
  | linkDown (a : ArgZ)
  /-- `LINK_UP`, R161. -/
  | linkUp (a : ArgZ)
  /-- `CRC_INIT`, R193. -/
  | crcInit (a : ArgZ)
  /-- `CRC_LOAD`, R194. -/
  | crcLoad (a : ArgH)
  /-- `CRC_BYTE`, R195. -/
  | crcByte (a : ArgB)
  /-- `CRC_WORD`, R196. -/
  | crcWord (a : ArgW)
  /-- `CRC_READ`, R197. -/
  | crcRead (a : ArgZ)
  /-- `CRC_CHECK`, R198. -/
  | crcCheck (a : ArgH)
  /-- `XOR_INIT`, R201. -/
  | xorInit (a : ArgZ)
  /-- `XOR_BYTE`, R202. -/
  | xorByte (a : ArgB)
  /-- `XOR_WORD`, R203. -/
  | xorWord (a : ArgW)
  /-- `XOR_READ`, R204. -/
  | xorRead (a : ArgZ)
  /-- `XOR_CHECK`, R205. -/
  | xorCheck (a : ArgB)
  deriving DecidableEq, Repr

end Sys2Proof
end

