-- ==== Sys2Proof/Decode.lean ====
section
/-! DEFINITION. The command decoder and the encoder (spec/30_encoding.md R70 to R81).

The decoder selects the command by `op` alone (R74); it is total: an `op` outside the map is refused by name, and the
machine answers that refusal with `E_ILLEGAL_OP` (R75). Fields are read once, here, as unsigned bit ranges of `arg`
(R73). The encoder after it writes the 40-bit word of any instruction. -/

namespace Sys2Proof

/-- Why a 40-bit word is no command: its `op` is not in the map of R74 (R75: 221 of the 256 values). -/
inductive DecodeError where
  | illegalOp (op : BitVec 8)
  deriving DecidableEq, Repr

/-- `arg[lo+w-1 : lo]`, an unsigned bit range taken as it stands (R12, R73). -/
def bitsOf (arg : Word) (lo w : Nat) : BitVec w := arg.extractLsb' lo w

/-! ### The thirteen operand formats, read from `arg` (R72) -/

/-- Format Z. -/
def ArgZ.ofArg (arg : Word) : ArgZ := ⟨bitsOf arg 0 32⟩

/-- Format B. -/
def ArgB.ofArg (arg : Word) : ArgB := ⟨bitsOf arg 0 8, bitsOf arg 8 24⟩

/-- Format H. -/
def ArgH.ofArg (arg : Word) : ArgH := ⟨bitsOf arg 0 16, bitsOf arg 16 16⟩

/-- Format W. -/
def ArgW.ofArg (arg : Word) : ArgW := ⟨bitsOf arg 0 8, bitsOf arg 8 8, bitsOf arg 16 8, bitsOf arg 24 8⟩

/-- Format X. -/
def ArgX.ofArg (arg : Word) : ArgX := ⟨bitsOf arg 0 29, bitsOf arg 29 3⟩

/-- Format ES. -/
def ArgES.ofArg (arg : Word) : ArgES := ⟨bitsOf arg 0 8, bitsOf arg 8 11, bitsOf arg 19 13⟩

/-- Format ED. -/
def ArgED.ofArg (arg : Word) : ArgED :=
  ⟨bitsOf arg 0 8, bitsOf arg 8 2, bitsOf arg 10 4, bitsOf arg 14 2, bitsOf arg 16 1, bitsOf arg 17 15⟩

/-- Format EK. -/
def ArgEK.ofArg (arg : Word) : ArgEK := ⟨bitsOf arg 0 8, bitsOf arg 8 3, bitsOf arg 11 11, bitsOf arg 22 10⟩

/-- Format RS. -/
def ArgRS.ofArg (arg : Word) : ArgRS := ⟨bitsOf arg 0 8, bitsOf arg 8 2, bitsOf arg 10 22⟩

/-- Format RC. -/
def ArgRC.ofArg (arg : Word) : ArgRC := ⟨bitsOf arg 0 8, bitsOf arg 8 8, bitsOf arg 16 16⟩

/-- Format T. -/
def ArgT.ofArg (arg : Word) : ArgT := ⟨bitsOf arg 0 1, bitsOf arg 1 31⟩

/-- Format CR. -/
def ArgCR.ofArg (arg : Word) : ArgCR := ⟨bitsOf arg 0 4, bitsOf arg 4 28⟩

/-- Format CW. -/
def ArgCW.ofArg (arg : Word) : ArgCW := ⟨bitsOf arg 0 4, bitsOf arg 4 4, bitsOf arg 8 8, bitsOf arg 16 16⟩

/-! ### The opcode map (R74) -/

/-- The thirteen operand formats of R72, by name. -/
inductive Format where
  | Z | B | H | W | X | ES | ED | EK | RS | RC | T | CR | CW
  deriving DecidableEq, Repr

/-- The bits of `arg` that a format marks mbz (R72). -/
def Format.mbzMask : Format → Word
  | .Z => 0xFFFFFFFF#32
  | .B => 0xFFFFFF00#32
  | .H => 0xFFFF0000#32
  | .W => 0#32
  | .X => 0#32
  | .ES => 0xFFF80000#32
  | .ED => 0xFFFE0000#32
  | .EK => 0xFFC00000#32
  | .RS => 0xFFFFFC00#32
  | .RC => 0xFFFF0000#32
  | .T => 0xFFFFFFFE#32
  | .CR => 0xFFFFFFF0#32
  | .CW => 0xFFFF00F0#32

/-- One row of the opcode map: the operation code, the mnemonic, the format, and the instruction that the row's format
makes of an `arg`. -/
structure OpRow where
  op : BitVec 8
  mnemonic : String
  format : Format
  make : Word → Instr

/-- The system commands, `op` high nibble 0x0. -/
def systemRows : List OpRow := [
  ⟨0x00#8, "NOP", .Z, fun arg => .nop (.ofArg arg)⟩,
  ⟨0x01#8, "CSR_READ", .CR, fun arg => .csrRead (.ofArg arg)⟩,
  ⟨0x02#8, "CSR_WRITE", .CW, fun arg => .csrWrite (.ofArg arg)⟩,
  ⟨0x0F#8, "SOFT_RESET", .Z, fun arg => .softReset (.ofArg arg)⟩]

/-- Unit U1, `op` high nibble 0x1. -/
def codecRows : List OpRow := [
  ⟨0x10#8, "ENC_STD", .ES, fun arg => .encStd (.ofArg arg)⟩,
  ⟨0x11#8, "ENC_SD", .ED, fun arg => .encSd (.ofArg arg)⟩,
  ⟨0x12#8, "ENC_KEY", .EK, fun arg => .encKey (.ofArg arg)⟩,
  ⟨0x14#8, "DEC_STD", .X, fun arg => .decStd (.ofArg arg)⟩,
  ⟨0x15#8, "DEC_SD", .X, fun arg => .decSd (.ofArg arg)⟩,
  ⟨0x16#8, "DEC_KEY", .X, fun arg => .decKey (.ofArg arg)⟩,
  ⟨0x17#8, "MID_CLASS", .B, fun arg => .midClass (.ofArg arg)⟩]

/-- Unit U2, `op` high nibble 0x2; the level-`k` request is 0x20 + `k`. -/
def arbiterRows : List OpRow := [
  ⟨0x21#8, "REQ_STATE", .RS, fun arg => .reqState (.ofArg arg)⟩,
  ⟨0x22#8, "REQ_HEARTBEAT", .B, fun arg => .reqHeartbeat (.ofArg arg)⟩,
  ⟨0x23#8, "REQ_CELL", .RC, fun arg => .reqCell (.ofArg arg)⟩,
  ⟨0x24#8, "REQ_STATUS", .B, fun arg => .reqStatus (.ofArg arg)⟩,
  ⟨0x25#8, "REQ_REGACK", .B, fun arg => .reqRegack (.ofArg arg)⟩,
  ⟨0x26#8, "REQ_TIMESYNC", .Z, fun arg => .reqTimesync (.ofArg arg)⟩,
  ⟨0x27#8, "REQ_ANNOUNCE", .Z, fun arg => .reqAnnounce (.ofArg arg)⟩,
  ⟨0x28#8, "ARB_TICK", .T, fun arg => .arbTick (.ofArg arg)⟩,
  ⟨0x29#8, "AWAIT_CLR_STATUS", .B, fun arg => .awaitClrStatus (.ofArg arg)⟩,
  ⟨0x2A#8, "AWAIT_CLR_CELL", .B, fun arg => .awaitClrCell (.ofArg arg)⟩,
  ⟨0x2B#8, "AWAIT_CLR_MODULE", .B, fun arg => .awaitClrModule (.ofArg arg)⟩,
  ⟨0x2C#8, "LINK_DOWN", .Z, fun arg => .linkDown (.ofArg arg)⟩,
  ⟨0x2D#8, "LINK_UP", .Z, fun arg => .linkUp (.ofArg arg)⟩]

/-- Unit U3, `op` high nibble 0x3. -/
def checksumRows : List OpRow := [
  ⟨0x30#8, "CRC_INIT", .Z, fun arg => .crcInit (.ofArg arg)⟩,
  ⟨0x31#8, "CRC_LOAD", .H, fun arg => .crcLoad (.ofArg arg)⟩,
  ⟨0x32#8, "CRC_BYTE", .B, fun arg => .crcByte (.ofArg arg)⟩,
  ⟨0x33#8, "CRC_WORD", .W, fun arg => .crcWord (.ofArg arg)⟩,
  ⟨0x34#8, "CRC_READ", .Z, fun arg => .crcRead (.ofArg arg)⟩,
  ⟨0x35#8, "CRC_CHECK", .H, fun arg => .crcCheck (.ofArg arg)⟩,
  ⟨0x38#8, "XOR_INIT", .Z, fun arg => .xorInit (.ofArg arg)⟩,
  ⟨0x39#8, "XOR_BYTE", .B, fun arg => .xorByte (.ofArg arg)⟩,
  ⟨0x3A#8, "XOR_WORD", .W, fun arg => .xorWord (.ofArg arg)⟩,
  ⟨0x3B#8, "XOR_READ", .Z, fun arg => .xorRead (.ofArg arg)⟩,
  ⟨0x3C#8, "XOR_CHECK", .B, fun arg => .xorCheck (.ofArg arg)⟩]

/-- The opcode map of R74, all 35 rows. -/
def opcodeMap : List OpRow := systemRows ++ codecRows ++ arbiterRows ++ checksumRows

/-! ### The decoder -/

/-- `cw[39:32]` (R70). -/
def opOf (cw : CmdWord) : BitVec 8 := cw.extractLsb' 32 8

/-- `cw[31:0]` (R70). -/
def argOf (cw : CmdWord) : Word := cw.extractLsb' 0 32

/-- The command a 40-bit word holds: selected by `op` alone (R74), total over all words, an `op` outside the map refused
by name (R75). -/
def decode (cw : CmdWord) : Except DecodeError Instr :=
  match opcodeMap.find? (fun row => row.op == opOf cw) with
  | some row => .ok (row.make (argOf cw))
  | none => .error (.illegalOp (opOf cw))

/-- The host's question: the instruction of a word whose bits the opcode table numbers as the 40-bit command word does.
The word is presented to the command port as it stands; bits above `nbits` are 0. -/
def decodeTableWord (nbits w : Nat) : Option Instr :=
  (decode (BitVec.ofNat 40 (w % 2 ^ nbits))).toOption

/-! ### The encoder -/

/-- A field put at bit `lo` of `arg`, zeros around it (R12, R73). -/
def place {w : Nat} (x : BitVec w) (lo : Nat) : Word := x.setWidth 32 <<< lo


/-- Format Z written back as `arg` (R72). -/
def ArgZ.toArg (a : ArgZ) : Word := place a.mbz 0

/-- Format B written back as `arg`. -/
def ArgB.toArg (a : ArgB) : Word := place a.mbz 8 ||| place a.v 0

/-- Format H written back as `arg`. -/
def ArgH.toArg (a : ArgH) : Word := place a.mbz 16 ||| place a.v 0

/-- Format W written back as `arg`: `b0` in the low byte. -/
def ArgW.toArg (a : ArgW) : Word := place a.b3 24 ||| place a.b2 16 ||| place a.b1 8 ||| place a.b0 0

/-- Format X written back as `arg`. -/
def ArgX.toArg (a : ArgX) : Word := place a.ign 29 ||| place a.extId 0

/-- Format ES written back as `arg`. -/
def ArgES.toArg (a : ArgES) : Word := place a.mbz 19 ||| place a.base 8 ||| place a.modfield 0

/-- Format ED written back as `arg`. -/
def ArgED.toArg (a : ArgED) : Word :=
  place a.mbz 17 ||| place a.lastChunk 16 ||| place a.windowId 14 ||| place a.chunkNum 10 ||| place a.transferId 8 |||
    place a.moduleId 0

/-- Format EK written back as `arg`. -/
def ArgEK.toArg (a : ArgEK) : Word := place a.mbz 22 ||| place a.base 11 ||| place a.chunk 8 ||| place a.low 0

/-- Format RS written back as `arg`. -/
def ArgRS.toArg (a : ArgRS) : Word := place a.mbz 10 ||| place a.state 8 ||| place a.target 0

/-- Format RC written back as `arg`. -/
def ArgRC.toArg (a : ArgRC) : Word := place a.mbz 16 ||| place a.cell 8 ||| place a.moduleId 0

/-- Format T written back as `arg`. -/
def ArgT.toArg (a : ArgT) : Word := place a.mbz 1 ||| place a.txReady 0

/-- Format CR written back as `arg`. -/
def ArgCR.toArg (a : ArgCR) : Word := place a.mbz 4 ||| place a.index 0

/-- Format CW written back as `arg`. -/
def ArgCW.toArg (a : ArgCW) : Word :=
  place a.mbz 16 ||| place a.value 8 ||| place a.mbzLo 4 ||| place a.index 0

/-- The 40-bit word of an operation code and an operand (R70). -/
def packWord (op : BitVec 8) (arg : Word) : CmdWord :=
  (op.setWidth 40 <<< 32) ||| arg.setWidth 40

/-- The word of an instruction: the `op` of its row of R74 and its operand (R70). Total: an instruction with a
must-be-zero bit set has a word too. -/
def encode : Instr → CmdWord
  | .nop a => packWord 0x00#8 a.toArg
  | .csrRead a => packWord 0x01#8 a.toArg
  | .csrWrite a => packWord 0x02#8 a.toArg
  | .softReset a => packWord 0x0F#8 a.toArg
  | .encStd a => packWord 0x10#8 a.toArg
  | .encSd a => packWord 0x11#8 a.toArg
  | .encKey a => packWord 0x12#8 a.toArg
  | .decStd a => packWord 0x14#8 a.toArg
  | .decSd a => packWord 0x15#8 a.toArg
  | .decKey a => packWord 0x16#8 a.toArg
  | .midClass a => packWord 0x17#8 a.toArg
  | .reqState a => packWord 0x21#8 a.toArg
  | .reqHeartbeat a => packWord 0x22#8 a.toArg
  | .reqCell a => packWord 0x23#8 a.toArg
  | .reqStatus a => packWord 0x24#8 a.toArg
  | .reqRegack a => packWord 0x25#8 a.toArg
  | .reqTimesync a => packWord 0x26#8 a.toArg
  | .reqAnnounce a => packWord 0x27#8 a.toArg
  | .arbTick a => packWord 0x28#8 a.toArg
  | .awaitClrStatus a => packWord 0x29#8 a.toArg
  | .awaitClrCell a => packWord 0x2A#8 a.toArg
  | .awaitClrModule a => packWord 0x2B#8 a.toArg
  | .linkDown a => packWord 0x2C#8 a.toArg
  | .linkUp a => packWord 0x2D#8 a.toArg
  | .crcInit a => packWord 0x30#8 a.toArg
  | .crcLoad a => packWord 0x31#8 a.toArg
  | .crcByte a => packWord 0x32#8 a.toArg
  | .crcWord a => packWord 0x33#8 a.toArg
  | .crcRead a => packWord 0x34#8 a.toArg
  | .crcCheck a => packWord 0x35#8 a.toArg
  | .xorInit a => packWord 0x38#8 a.toArg
  | .xorByte a => packWord 0x39#8 a.toArg
  | .xorWord a => packWord 0x3A#8 a.toArg
  | .xorRead a => packWord 0x3B#8 a.toArg
  | .xorCheck a => packWord 0x3C#8 a.toArg

end Sys2Proof
end

