-- ==== Sys2Proof/Config.lean ====
section
/-! DEFINITION. The parameters of the block (spec/00_scope.md R6): the fixed ones are constants, the configuration ones
are the fields of `Params`, with the defaults the spec takes.

HOW A CONFIGURATION PARAMETER ENTERS THE MODEL (log entry 2, DESIGN CHOICE): a value of `Params` is carried beside the
registers in the machine's state, no command changes it, and every statement about all states is therefore a statement
about every choice of the parameters. The spec leaves no value free after an instruction, so there is no opaque
constant here. -/

namespace Sys2Proof

/-- R6 `BASE_SHIFT`: where the base ID sits in an identifier. -/
abbrev baseShift : Nat := 18

/-- R6 `N_MODULES`: "31 permanent entries, indexed 1..31". -/
abbrev nModules : Nat := 31

/-- R6 `SD_DATA_BASE`: the base of SD data chunk identifiers. -/
abbrev sdDataBase : BaseId := 0x3F1#11

/-- R6 `KEY_BASES`: PackDevice, AppDevice, ComponentIds. -/
def keyBases : List BaseId := [0x407#11, 0x408#11, 0x409#11]

/-- R6 `KEY_ACK_BASES`: the acknowledgement base of each key base (R107). -/
def keyAckBases : List BaseId := [0x4A7#11, 0x4A8#11, 0x4A9#11]

/-- R6 `SD_STATUS_CRC_ERROR`: the result of a failed `CRC_CHECK` (R198). -/
abbrev sdStatusCrcError : Word := 0x20#32

/-- The configuration parameters of R6 and R192. The four CRC parameters are OPEN in the spec (D20): a claim that
depends on a CRC value names them. `cfgReset` is `CFG_RESET` (D9, D14). -/
structure Params where
  /-- `CRC_POLY` -/
  crcPoly : Half
  /-- `CRC_INIT` -/
  crcInit : Half
  /-- `CRC_REFLECT` -/
  crcReflect : Bool
  /-- `CRC_XOROUT` -/
  crcXorOut : Half
  /-- `CFG_RESET` -/
  cfgReset : Byte
  deriving DecidableEq, Repr

/-- The defaults of R6: CRC-16/CCITT-FALSE, no base-0 alias, no one-shot level. PRESUMED for the four CRC values: the
spec itself takes them from general knowledge (log entry 3). -/
def defaultParams : Params where
  crcPoly := 0x1021#16
  crcInit := 0xFFFF#16
  crcReflect := false
  crcXorOut := 0x0000#16
  cfgReset := 0x00#8

end Sys2Proof
end

