-- ==== Sys2Proof/Machine/State.lean ====
section
/-! DEFINITION. The state of the block (spec/10_state.md R20 to R36), its responses (spec/60_exceptions.md R250), and the
reasons a step could stop for.

`Regs` is the whole architectural state: "The state of the block is exactly the following registers and nothing else"
(R20). `State` puts beside it three fields that are the MODEL's own, because the interface's step takes a state and
nothing else: the configuration parameters (log entry 2), the commands the host has presented and the block has not yet
executed, and the responses given so far (log entry 1). -/

namespace Sys2Proof.Machine

/-- The seven priority levels of R26 and R140, the highest first. -/
inductive Level where
  /-- Level 1, "State change". -/
  | stateChange
  /-- Level 2, "Heartbeat (MaxState)". -/
  | heartbeat
  /-- Level 3, "Cell detail request". -/
  | cellDetail
  /-- Level 4, "Status request". -/
  | status
  /-- Level 5, "Registration ACK". -/
  | regAck
  /-- Level 6, "Time sync". -/
  | timeSync
  /-- Level 7, "Announce request". -/
  | announce
  deriving DecidableEq, Repr

/-- The thirteen status values of R250, and no other. The first five mean "performed", the rest "refused". -/
inductive Status where
  | ok | okAliased | okCoalesced | okIdle | txDropped
  | eIllegalOp | eBadArg | eUnknownId | eGated | eLinkDown | eTxBusy | eBadCrc | eBadChecksum
  deriving DecidableEq, Repr

/-- A response: the 32-bit result and the status (R10, R71). -/
structure Response where
  res : Word
  st : Status
  deriving DecidableEq, Repr

/-- The registers of R20: the whole state of the block, no hidden state behind it (R36). -/
structure Regs where
  /-- `CFG`, 8 bits: `CFG[0]` = `ZBASE`, `CFG[k]` = `ONESHOT[k]` (R23 to R25). -/
  cfg : Byte
  /-- `REQ`, 8 bits, bit 0 always 0 (R26). -/
  req : Byte
  /-- `PARAM[1]`: target module-ID field and new state (R27). -/
  param1 : Half
  /-- `PARAM[2]`: maximum state. -/
  param2 : Half
  /-- `PARAM[3]`: module and cell index. -/
  param3 : Half
  /-- `PARAM[4]`: module. -/
  param4 : Half
  /-- `PARAM[5]`: assigned module id. -/
  param5 : Half
  /-- `PARAM[6]`: always 0. -/
  param6 : Half
  /-- `PARAM[7]`: always 0. -/
  param7 : Half
  /-- `AW_STATUS`, 32 bits, bit 0 always 0 (R28). -/
  awStatus : Word
  /-- `AW_CELL`, 32 bits, bit 0 always 0 (R29). -/
  awCell : Word
  /-- `LINK`, 1 bit: the CAN link is up (R30). -/
  link : Bool
  /-- `CRC`, 16 bits: the raw accumulator (R31). -/
  crc : Half
  /-- `XSUM`, 8 bits (R32). -/
  xsum : Byte
  deriving DecidableEq, Repr

/-- The machine: the block's registers, and the model's own fields around them. -/
structure State where
  /-- The registers of R20. -/
  regs : Regs
  /-- MODEL's own: the configuration parameters of R6, which no command writes (log entry 2). -/
  params : Params
  /-- MODEL's own: the command words at the command port, the next one first (R56, log entry 1). -/
  pending : List CmdWord
  /-- MODEL's own: the responses given so far, the oldest first (R296, log entry 1). -/
  responses : List Response
  deriving DecidableEq, Repr

/-- No fault exists: "No behaviour of the block is `fault`, `stuck` or `any value`: the step function is total"
(spec/93_implementation_defined.md; R254). An error is a response, so nothing raises a fault; the type is empty, which
is safe. -/
inductive Fault where
  deriving DecidableEq, Repr

/-- No instruction is refused: R10 and R254 make every command's step total. -/
inductive Refusal where
  /-- Raised by an arm of `exec` whose instruction has no meaning yet; no arm is left in that state. Safe: nothing is
  claimed of such an instruction. -/
  | notModelled (mnemonic : String)
  deriving DecidableEq, Repr

/-- The registers after reset, power-on or `SOFT_RESET` (R35, R280): `CFG` at `CFG_RESET`, `CRC` at `CRC_INIT`, every
other register zero, the link down. -/
def Regs.reset (p : Params) : Regs where
  cfg := p.cfgReset
  req := 0
  param1 := 0
  param2 := 0
  param3 := 0
  param4 := 0
  param5 := 0
  param6 := 0
  param7 := 0
  awStatus := 0
  awCell := 0
  link := false
  crc := p.crcInit
  xsum := 0

/-- The machine after reset: the registers of R35 under the default parameters of R6, no command presented, no response
given. -/
def State.reset : State where
  regs := Regs.reset defaultParams
  params := defaultParams
  pending := []
  responses := []

/-- The machine after a command that leaves the registers `r` and gives the response `(res, st)`: the configuration and
the commands still at the port are as they were, and the response stands last. -/
def State.answered (s : State) (r : Regs) (res : Word) (st : Status) : State where
  regs := r
  params := s.params
  pending := s.pending
  responses := s.responses ++ [⟨res, st⟩]

end Sys2Proof.Machine
end

