-- ==== Sys2Proof/Machine/Flags.lean ====
section
/-! DEFINITION. The status byte of a response (spec/60_exceptions.md R250) and its packing (spec/30_encoding.md R71).
The block has no condition codes: a status is returned and not retained (R253). -/

namespace Sys2Proof.Machine

/-- The number of each status, R250. -/
def Status.code : Status → BitVec 8
  | .ok => 0x00#8
  | .okAliased => 0x01#8
  | .okCoalesced => 0x02#8
  | .okIdle => 0x03#8
  | .txDropped => 0x04#8
  | .eIllegalOp => 0x80#8
  | .eBadArg => 0x81#8
  | .eUnknownId => 0x82#8
  | .eGated => 0x83#8
  | .eLinkDown => 0x84#8
  | .eTxBusy => 0x85#8
  | .eBadCrc => 0x86#8
  | .eBadChecksum => 0x87#8

/-- The name of each status as R250 writes it. -/
def Status.name : Status → String
  | .ok => "OK"
  | .okAliased => "OK_ALIASED"
  | .okCoalesced => "OK_COALESCED"
  | .okIdle => "OK_IDLE"
  | .txDropped => "TX_DROPPED"
  | .eIllegalOp => "E_ILLEGAL_OP"
  | .eBadArg => "E_BAD_ARG"
  | .eUnknownId => "E_UNKNOWN_ID"
  | .eGated => "E_GATED"
  | .eLinkDown => "E_LINK_DOWN"
  | .eTxBusy => "E_TX_BUSY"
  | .eBadCrc => "E_BAD_CRC"
  | .eBadChecksum => "E_BAD_CHECKSUM"

/-- `st[7] = 1`: the command was refused (R71, R250). -/
def Status.isError (st : Status) : Bool := st.code.getLsbD 7

/-- The 40-bit response word `rw`: `st` in bits 39..32, `res` in bits 31..0 (R71). -/
def Response.word (r : Response) : BitVec 40 := (r.st.code.setWidth 40 <<< 32) ||| r.res.setWidth 40

/-- The kind of the document's taxonomy that an error status stands for; the two kinds of the command port alone have
none, and `E_GATED` is the document's poller rule (R250, R251). -/
def Status.documentKind : Status → Option String
  | .eUnknownId => some "UnknownId"
  | .eLinkDown => some "LinkDown"
  | .eTxBusy => some "TxBusy"
  | .eBadCrc => some "BadCrc"
  | .eBadChecksum => some "BadChecksum"
  | .ok | .okAliased | .okCoalesced | .okIdle | .txDropped | .eIllegalOp | .eBadArg | .eGated => none

end Sys2Proof.Machine
end

