-- ==== Sys2Proof/Machine/Operands.lean ====
section
/-! DEFINITION. Operands: the checks a command makes on its fields, the sets of base IDs, and the values assembled from
fields (spec/30_encoding.md R73, R76, R78; spec/40_id_codec.md R100 to R107). -/

namespace Sys2Proof.Machine

/-- `mbz(hi, lo)` fails: some must-be-zero bit is 1 (R13, R76). -/
def mbzSet {w : Nat} (bits : BitVec w) : Bool := bits != 0

/-- "if v < 1 or v > 31 then raise E_BAD_ARG": not a module slot (R78, R148 to R150, R156 to R158). -/
def notModule (v : Byte) : Bool := decide (v.toNat < 1) || decide (nModules < v.toNat)

/-- Not a StateChange address: "target > 0x1F" (R146). -/
def badTarget (v : Byte) : Bool := decide (0x1F < v.toNat)

/-- Not a module state: "v > 3" (R147, the codes of spec/00_scope.md R8). -/
def badMaxState (v : Byte) : Bool := decide (3 < v.toNat)

/-- The module-protocol set `PROTO_SET`, by range (R105). -/
def inProtoSet (base : BaseId) : Bool :=
  (decide (0x500 ≤ base.toNat) && decide (base.toNat ≤ 0x51F)) ||
    (decide (0x3F0 ≤ base.toNat) && decide (base.toNat ≤ 0x3F3))

/-- A key base (R104, `KEY_BASES`). -/
def isKeyBase (base : BaseId) : Bool := keyBases.contains base

/-- `base_id = ext_id[28:18]` (R102). -/
def baseOf (x : ExtId) : BaseId := x.extractLsb' 18 11

/-- `mid = ext_id[17:8]`, the ten middle bits (R102). -/
def midOf (x : ExtId) : BitVec 10 := x.extractLsb' 8 10

/-- `module_id = ext_id[7:0]` (R102). -/
def modfieldOf (x : ExtId) : Byte := x.extractLsb' 0 8

/-- `ext_id[17]`, the mode bit of the SD layout (R103). -/
def modeOf (x : ExtId) : Bool := x.getLsbD 17

/-- `ext_id[10:8]`, the chunk index of the KEY layout (R104). -/
def keyChunkOf (x : ExtId) : BitVec 3 := x.extractLsb' 8 3

/-- `arg[16:0]` of format ED: the low 17 bits of an SD data identifier, each sub-field at its own position
(R103, R109). -/
def sdLow (a : ArgED) : Word :=
  place a.lastChunk 16 ||| place a.windowId 14 ||| place a.chunkNum 10 ||| place a.transferId 8 ||| place a.moduleId 0

/-- `arg[15:0]` of format RS whose must-be-zero bits are 0: `PARAM[1]`'s layout (R27). -/
def stateOperand (a : ArgRS) : Half := (a.state.setWidth 16 <<< 8) ||| a.target.setWidth 16

/-- `arg[15:0]` of format B whose must-be-zero bits are 0: `PARAM[2]`, `PARAM[4]`, `PARAM[5]` (R27). -/
def byteOperand (a : ArgB) : Half := a.v.setWidth 16

/-- `arg[15:0]` of format RC: `PARAM[3]`'s layout (R27). -/
def cellOperand (a : ArgRC) : Half := (a.cell.setWidth 16 <<< 8) ||| a.moduleId.setWidth 16

/-- `PARAM[k][7:0]` (R27). -/
def lowByte (p : Half) : Byte := p.extractLsb' 0 8

end Sys2Proof.Machine
end

