-- ==== Sys2Proof/Machine/Ops.lean ====
section
/-! DEFINITION. The shared operations: the two ways a command ends (performed, refused), the command port, bit writes,
the parameter registers and request flags, the register index map, the common procedure of the seven requests, the
selection function, and the checksum updates.

The block has no trap, no handler and no return from one (spec/60_exceptions.md R257, R258): "an error is a status byte
in the response of the command that met it, and nothing else". `refuse` is that one operation. -/

namespace Sys2Proof.Machine

/-- The outcome of a command. -/
abbrev Result := Host.Outcome State Fault Refusal

/-! ### The two ends of a command (R13) -/

/-- `return (res, st)`: the registers become `r` at once and the response is given (R13, R53, R254). -/
def respond (s : State) (r : Regs) (res : Word) (st : Status) : Result :=
  .next (s.answered r res st)

/-- `raise E(info)`: the response is `(info, E)` and no register is written (R13, R71, R254). -/
def refuse (s : State) (st : Status) (info : Word) : Result := respond s s.regs info st

/-! ### The command port (R10, R56) -/

/-- The next command word, and the machine that has taken it from the port. -/
def takeCommand (s : State) : Option (CmdWord × State) :=
  match s.pending with
  | [] => none
  | cw :: rest => some (cw, { s with pending := rest })

/-- No command is presented: the block "never acts on its own" (R256), so nothing changes (log entry 1). -/
def idle (s : State) : Result := .next s

/-- An `op` outside the map: `E_ILLEGAL_OP(0)`, whatever `arg` is (R75). -/
def illegalCommand (s : State) (_why : DecodeError) : Result := refuse s .eIllegalOp 0

/-- The host presents one more command, after those already at the port (R9, R56). -/
def present (cw : CmdWord) (s : State) : State := { s with pending := s.pending ++ [cw] }

/-! ### Bit writes -/

/-- `w[i] <- 1`. A bit that the register does not have is not written (log entry 5). -/
def setBit {n : Nat} (w : BitVec n) (i : Nat) : BitVec n := w ||| (1#n <<< i)

/-- `w[i] <- 0`. -/
def clearBit {n : Nat} (w : BitVec n) (i : Nat) : BitVec n := w &&& ~~~(1#n <<< i)

/-- One bit as a 32-bit result. -/
def bitWord (b : Bool) : Word := if b then 1 else 0

/-! ### Levels, request flags and parameters (R26, R27) -/

/-- The number `k` of a level, 1 the highest. -/
def Level.num : Level → Nat
  | .stateChange => 1
  | .heartbeat => 2
  | .cellDetail => 3
  | .status => 4
  | .regAck => 5
  | .timeSync => 6
  | .announce => 7

/-- `PARAM[k]`. -/
def Regs.param (r : Regs) : Level → Half
  | .stateChange => r.param1
  | .heartbeat => r.param2
  | .cellDetail => r.param3
  | .status => r.param4
  | .regAck => r.param5
  | .timeSync => r.param6
  | .announce => r.param7

/-- `PARAM[k] <- v`. -/
def Regs.setParam (r : Regs) (k : Level) (v : Half) : Regs :=
  match k with
  | .stateChange => { r with param1 := v }
  | .heartbeat => { r with param2 := v }
  | .cellDetail => { r with param3 := v }
  | .status => { r with param4 := v }
  | .regAck => { r with param5 := v }
  | .timeSync => { r with param6 := v }
  | .announce => { r with param7 := v }

/-- `REQ[k]`. -/
def Regs.requested (r : Regs) (k : Level) : Bool := r.req.getLsbD k.num

/-- `REQ[k] <- 1`. -/
def Regs.setReq (r : Regs) (k : Level) : Regs := { r with req := setBit r.req k.num }

/-- `REQ[k] <- 0`. -/
def Regs.clearReq (r : Regs) (k : Level) : Regs := { r with req := clearBit r.req k.num }

/-- `CFG[k] = ONESHOT[k]` (R25). -/
def Regs.oneShot (r : Regs) (k : Level) : Bool := r.cfg.getLsbD k.num

/-- `CFG[0] = ZBASE` (R24). -/
def Regs.zbase (r : Regs) : Bool := r.cfg.getLsbD 0

/-! ### In-flight bits (R28, R29) -/

/-- `AW_STATUS[m]`. -/
def Regs.awaitingStatus (r : Regs) (m : Byte) : Bool := r.awStatus.getLsbD m.toNat

/-- `AW_CELL[m]`. -/
def Regs.awaitingCell (r : Regs) (m : Byte) : Bool := r.awCell.getLsbD m.toNat

/-- `AW_STATUS[m] <- 1`. -/
def Regs.setAwaitStatus (r : Regs) (m : Byte) : Regs := { r with awStatus := setBit r.awStatus m.toNat }

/-- `AW_CELL[m] <- 1`. -/
def Regs.setAwaitCell (r : Regs) (m : Byte) : Regs := { r with awCell := setBit r.awCell m.toNat }

/-- `AW_STATUS[m] <- 0`. -/
def Regs.clearAwaitStatus (r : Regs) (m : Byte) : Regs := { r with awStatus := clearBit r.awStatus m.toNat }

/-- `AW_CELL[m] <- 0`. -/
def Regs.clearAwaitCell (r : Regs) (m : Byte) : Regs := { r with awCell := clearBit r.awCell m.toNat }

/-! ### The register index map (R33, R231) -/

/-- The value `CSR_READ` gives for an index, zero-extended; `none` for the reserved indices 14 and 15. -/
def csrValue (r : Regs) (index : BitVec 4) : Option Word :=
  match index.toNat with
  | 0 => some (r.cfg.setWidth 32)
  | 1 => some (r.param1.setWidth 32)
  | 2 => some (r.param2.setWidth 32)
  | 3 => some (r.param3.setWidth 32)
  | 4 => some (r.param4.setWidth 32)
  | 5 => some (r.param5.setWidth 32)
  | 6 => some (r.param6.setWidth 32)
  | 7 => some (r.param7.setWidth 32)
  | 8 => some (r.req.setWidth 32)
  | 9 => some r.awStatus
  | 10 => some r.awCell
  | 11 => some (bitWord r.link)
  | 12 => some (r.crc.setWidth 32)
  | 13 => some (r.xsum.setWidth 32)
  | _ => none

/-! ### The arbiter's shared procedures -/

/-- The common procedure of the seven `REQ_*` commands (R143), in its order: the operand check, the link, the gate, and
only then the latch, which keeps the newer operand and returns the older one when the flag was already set. -/
def request (k : Level) (badOperand gated : Bool) (operand : Half) (s : State) : Result :=
  if badOperand then refuse s .eBadArg 0
  else if !s.regs.link then refuse s .eLinkDown 0
  else if gated then refuse s .eGated 0
  else if s.regs.requested k then
    respond s ((s.regs.setReq k).setParam k operand) ((s.regs.param k).setWidth 32) .okCoalesced
  else respond s ((s.regs.setReq k).setParam k operand) 0 .ok

/-- `sel(REQ)` (R153): the least level whose flag is set, `none` for the spec's 0. -/
def sel (req : Byte) : Option Level :=
  if req.getLsbD 1 then some .stateChange
  else if req.getLsbD 2 then some .heartbeat
  else if req.getLsbD 3 then some .cellDetail
  else if req.getLsbD 4 then some .status
  else if req.getLsbD 5 then some .regAck
  else if req.getLsbD 6 then some .timeSync
  else if req.getLsbD 7 then some .announce
  else none

/-- The grant word `g = (k << 16) | PARAM[k]` (R154). -/
def grantWord (r : Regs) (k : Level) : Word := (BitVec.ofNat 32 k.num <<< 16) ||| (r.param k).setWidth 32

/-- The registers after a grant of level `k`: its flag cleared, and for levels 3 and 4 the in-flight bit of the module
named by its parameter set by the same command (R154). -/
def grantRegs (r : Regs) (k : Level) : Regs :=
  match k with
  | .cellDetail => (r.clearReq .cellDetail).setAwaitCell (lowByte r.param3)
  | .status => (r.clearReq .status).setAwaitStatus (lowByte r.param4)
  | k => r.clearReq k

/-! ### The checksums (R190, R191, R200) -/

/-- One bit of the non-reflected CRC update (R190). -/
def crcShiftLeft (poly crc : Half) : Half :=
  if crc.getLsbD 15 then (crc <<< 1) ^^^ poly else crc <<< 1

/-- `rev16(x)`: the 16 bits of `x` reversed (R191). -/
def rev16 (x : Half) : Half := x.reverse

/-- One bit of the reflected CRC update (R191). -/
def crcShiftRight (poly crc : Half) : Half :=
  if crc.getLsbD 0 then (crc >>> 1) ^^^ rev16 poly else crc >>> 1

/-- `n` steps of `f`. -/
def repeatStep (f : Half → Half) : Nat → Half → Half
  | 0, x => x
  | n + 1, x => repeatStep f n (f x)

/-- `crc_update(crc, b)`: the reflected form under `CRC_REFLECT`, otherwise the most-significant-bit-first form
(R190, R191). -/
def crcUpdate (p : Params) (crc : Half) (b : Byte) : Half :=
  if p.crcReflect then repeatStep (crcShiftRight p.crcPoly) 8 (crc ^^^ b.setWidth 16)
  else repeatStep (crcShiftLeft p.crcPoly) 8 (crc ^^^ (b.setWidth 16 <<< 8))

/-- The bytes of a sequence fed in order, the first one first. -/
def crcFeed (p : Params) (crc : Half) (bytes : List Byte) : Half := bytes.foldl (crcUpdate p) crc

/-- `crc(a)` of R208 (b), (c): the CRC of a byte sequence fed from `CRC_INIT`, before the final exclusive-or. -/
def crcOf (p : Params) (bytes : List Byte) : Half := crcFeed p p.crcInit bytes

/-- The finalised CRC, `CRC ^ CRC_XOROUT` (R197, R198). -/
def crcFinal (p : Params) (crc : Half) : Half := crc ^^^ p.crcXorOut

/-- The running exclusive-or after a sequence of bytes (R200). -/
def xorFeed (xsum : Byte) (bytes : List Byte) : Byte := bytes.foldl (· ^^^ ·) xsum

/-- The XOR-8 checksum of a byte sequence, 0x00 of the empty one (R200, R208 (e)). -/
def xorOf (bytes : List Byte) : Byte := xorFeed 0 bytes

/-- The four bytes of format W in the order they are fed: the low end of `arg` first (R51, R196). -/
def wordBytes (a : ArgW) : List Byte := [a.b0, a.b1, a.b2, a.b3]

end Sys2Proof.Machine
end

