-- ==== Sys2Proof/Machine/Arbiter.lean ====
section
/-! DEFINITION. Unit U2, the command-priority arbiter (spec/41_arbiter.md R143 to R161). -/

namespace Sys2Proof.Machine

/-- `REQ_STATE`, level 1 (R146). -/
def execReqState (a : ArgRS) (s : State) : Result :=
  request .stateChange (mbzSet a.mbz || badTarget a.target) false (stateOperand a) s

/-- `REQ_HEARTBEAT`, level 2 (R147). -/
def execReqHeartbeat (a : ArgB) (s : State) : Result :=
  request .heartbeat (mbzSet a.mbz || badMaxState a.v) false (byteOperand a) s

/-- `REQ_CELL`, level 3, gated by `AW_CELL` (R144, R148). -/
def execReqCell (a : ArgRC) (s : State) : Result :=
  request .cellDetail (mbzSet a.mbz || notModule a.moduleId) (s.regs.awaitingCell a.moduleId) (cellOperand a) s

/-- `REQ_STATUS`, level 4, gated by `AW_STATUS` (R144, R149). -/
def execReqStatus (a : ArgB) (s : State) : Result :=
  request .status (mbzSet a.mbz || notModule a.v) (s.regs.awaitingStatus a.v) (byteOperand a) s

/-- `REQ_REGACK`, level 5 (R150). -/
def execReqRegack (a : ArgB) (s : State) : Result :=
  request .regAck (mbzSet a.mbz || notModule a.v) false (byteOperand a) s

/-- `REQ_TIMESYNC`, level 6 (R151): its parameter is always 0. -/
def execReqTimesync (a : ArgZ) (s : State) : Result :=
  request .timeSync (mbzSet a.mbz) false 0 s

/-- `REQ_ANNOUNCE`, level 7 (R152): its parameter is always 0. -/
def execReqAnnounce (a : ArgZ) (s : State) : Result :=
  request .announce (mbzSet a.mbz) false 0 s

/-- `ARB_TICK` (R154): serve at most one request, the selected one; on a failed try drop it if its level is one-shot,
otherwise keep it and answer `E_TX_BUSY` with the grant word. -/
def execArbTick (a : ArgT) (s : State) : Result :=
  if mbzSet a.mbz then refuse s .eBadArg 0
  else if !s.regs.link then refuse s .eLinkDown 0
  else
    match sel s.regs.req with
    | none => respond s s.regs 0 .okIdle
    | some k =>
      if a.txReady == 1 then respond s (grantRegs s.regs k) (grantWord s.regs k) .ok
      else if s.regs.oneShot k then respond s (s.regs.clearReq k) (grantWord s.regs k) .txDropped
      else refuse s .eTxBusy (grantWord s.regs k)

/-- `AWAIT_CLR_STATUS` (R156): the result is the old bit. Not refused while the link is down. -/
def execAwaitClrStatus (a : ArgB) (s : State) : Result :=
  if mbzSet a.mbz || notModule a.v then refuse s .eBadArg 0
  else respond s (s.regs.clearAwaitStatus a.v) (bitWord (s.regs.awaitingStatus a.v)) .ok

/-- `AWAIT_CLR_CELL` (R157). -/
def execAwaitClrCell (a : ArgB) (s : State) : Result :=
  if mbzSet a.mbz || notModule a.v then refuse s .eBadArg 0
  else respond s (s.regs.clearAwaitCell a.v) (bitWord (s.regs.awaitingCell a.v)) .ok

/-- `AWAIT_CLR_MODULE` (R158): both bits, `os | (oc << 1)`. -/
def execAwaitClrModule (a : ArgB) (s : State) : Result :=
  if mbzSet a.mbz || notModule a.v then refuse s .eBadArg 0
  else respond s ((s.regs.clearAwaitStatus a.v).clearAwaitCell a.v)
    (bitWord (s.regs.awaitingStatus a.v) ||| (bitWord (s.regs.awaitingCell a.v) <<< 1)) .ok

/-- `LINK_DOWN` (R160): cancels every request and in-flight bit; the result is the old `REQ`. -/
def execLinkDown (a : ArgZ) (s : State) : Result :=
  if mbzSet a.mbz then refuse s .eBadArg 0
  else respond s { s.regs with link := false, req := 0, awStatus := 0, awCell := 0 } (s.regs.req.setWidth 32) .ok

/-- `LINK_UP` (R161): acts only on the change from 0 to 1, and then latches the fresh announce request. -/
def execLinkUp (a : ArgZ) (s : State) : Result :=
  if mbzSet a.mbz then refuse s .eBadArg 0
  else if s.regs.link then respond s s.regs 0 .ok
  else respond s { s.regs with link := true, awStatus := 0, awCell := 0, req := 0x80#8, param7 := 0 } 1 .ok

end Sys2Proof.Machine
end

