-- ==== Sys2Proof/Machine/Checksum.lean ====
section
/-! DEFINITION. Unit U3, the CRC-16 generator and the XOR-8 checksum (spec/42_checksum.md R193 to R205). No command of it
reads `LINK`, `CFG` or the arbiter's registers. -/

namespace Sys2Proof.Machine

/-- `CRC_INIT` (R193). -/
def execCrcInit (a : ArgZ) (s : State) : Result :=
  if mbzSet a.mbz then refuse s .eBadArg 0 else respond s { s.regs with crc := s.params.crcInit } 0 .ok

/-- `CRC_LOAD` (R194): the raw value. -/
def execCrcLoad (a : ArgH) (s : State) : Result :=
  if mbzSet a.mbz then refuse s .eBadArg 0 else respond s { s.regs with crc := a.v } 0 .ok

/-- `CRC_BYTE` (R195): the result is the new raw register. -/
def execCrcByte (a : ArgB) (s : State) : Result :=
  if mbzSet a.mbz then refuse s .eBadArg 0
  else respond s { s.regs with crc := crcUpdate s.params s.regs.crc a.v }
    ((crcUpdate s.params s.regs.crc a.v).setWidth 32) .ok

/-- `CRC_WORD` (R196): four bytes, the low end of `arg` first. -/
def execCrcWord (a : ArgW) (s : State) : Result :=
  respond s { s.regs with crc := crcFeed s.params s.regs.crc (wordBytes a) }
    ((crcFeed s.params s.regs.crc (wordBytes a)).setWidth 32) .ok

/-- `CRC_READ` (R197): the finalised value in the high half, the raw one in the low half. -/
def execCrcRead (a : ArgZ) (s : State) : Result :=
  if mbzSet a.mbz then refuse s .eBadArg 0
  else respond s s.regs
    (((crcFinal s.params s.regs.crc).setWidth 32 <<< 16) ||| s.regs.crc.setWidth 32) .ok

/-- `CRC_CHECK` (R198): a mismatch answers `E_BAD_CRC` with the result 0x20. -/
def execCrcCheck (a : ArgH) (s : State) : Result :=
  if mbzSet a.mbz then refuse s .eBadArg 0
  else if crcFinal s.params s.regs.crc == a.v then respond s s.regs 0 .ok
  else refuse s .eBadCrc sdStatusCrcError

/-- `XOR_INIT` (R201). -/
def execXorInit (a : ArgZ) (s : State) : Result :=
  if mbzSet a.mbz then refuse s .eBadArg 0 else respond s { s.regs with xsum := 0 } 0 .ok

/-- `XOR_BYTE` (R202): the result is the new value. -/
def execXorByte (a : ArgB) (s : State) : Result :=
  if mbzSet a.mbz then refuse s .eBadArg 0
  else respond s { s.regs with xsum := s.regs.xsum ^^^ a.v } ((s.regs.xsum ^^^ a.v).setWidth 32) .ok

/-- `XOR_WORD` (R203). -/
def execXorWord (a : ArgW) (s : State) : Result :=
  respond s { s.regs with xsum := xorFeed s.regs.xsum (wordBytes a) }
    ((xorFeed s.regs.xsum (wordBytes a)).setWidth 32) .ok

/-- `XOR_READ` (R204). -/
def execXorRead (a : ArgZ) (s : State) : Result :=
  if mbzSet a.mbz then refuse s .eBadArg 0 else respond s s.regs (s.regs.xsum.setWidth 32) .ok

/-- `XOR_CHECK` (R205): a mismatch answers `E_BAD_CHECKSUM` with the result 1. -/
def execXorCheck (a : ArgB) (s : State) : Result :=
  if mbzSet a.mbz then refuse s .eBadArg 0
  else if s.regs.xsum == a.v then respond s s.regs 0 .ok
  else refuse s .eBadChecksum 1

end Sys2Proof.Machine
end

