-- ==== Sys2Proof/Machine/Codec.lean ====
section
/-! DEFINITION. Unit U1, the 29-bit identifier codec (spec/40_id_codec.md R108 to R115). No command of it writes a
register; `DEC_STD` alone reads one, `CFG[0]`. -/

namespace Sys2Proof.Machine

/-- `ENC_STD` (R108): `(base << 18) | modfield`; no field is range-checked (R111). -/
def execEncStd (a : ArgES) (s : State) : Result :=
  if mbzSet a.mbz then refuse s .eBadArg 0
  else respond s s.regs (place a.base baseShift ||| place a.modfield 0) .ok

/-- `ENC_SD` (R109): the base 0x3F1 and `mode = 1` are the command's own. -/
def execEncSd (a : ArgED) (s : State) : Result :=
  if mbzSet a.mbz then refuse s .eBadArg 0
  else respond s s.regs
    (place sdDataBase baseShift ||| place 1#1 17 ||| sdLow a) .ok

/-- `ENC_KEY` (R110): only a key base is encoded; bits 17..11 are written 0. -/
def execEncKey (a : ArgEK) (s : State) : Result :=
  if mbzSet a.mbz then refuse s .eBadArg 0
  else if !isKeyBase a.base then refuse s .eUnknownId 0
  else respond s s.regs
    (place a.base baseShift ||| place a.chunk 8 ||| place a.low 0) .ok

/-- The result layout of `DEC_STD`: the module-ID field, the base, and the ten middle bits preserved (R112). -/
def stdResult (mid : BitVec 10) (base : BaseId) (m : Byte) : Word :=
  place mid 19 ||| place base 8 ||| place m 0

/-- `DEC_STD` (R112): membership in `PROTO_SET`, and the base-0 case under `CFG[0] = 1`. -/
def execDecStd (a : ArgX) (s : State) : Result :=
  if inProtoSet (baseOf a.extId) then
    respond s s.regs (stdResult (midOf a.extId) (baseOf a.extId) (modfieldOf a.extId)) .ok
  else if baseOf a.extId == 0 && s.regs.zbase then
    respond s s.regs (stdResult (midOf a.extId) 0x500#11 (modfieldOf a.extId)) .okAliased
  else refuse s .eUnknownId 0

/-- `DEC_SD` (R113): the base is checked first, then the mode bit; the low 18 bits are returned in place. -/
def execDecSd (a : ArgX) (s : State) : Result :=
  if baseOf a.extId != sdDataBase then refuse s .eUnknownId 0
  else if !modeOf a.extId then refuse s .eBadArg 0
  else respond s s.regs ((a.extId.extractLsb' 0 18).setWidth 32) .ok

/-- `DEC_KEY` (R114): identifier bits 17..11 are ignored. -/
def execDecKey (a : ArgX) (s : State) : Result :=
  if !isKeyBase (baseOf a.extId) then refuse s .eUnknownId 0
  else respond s s.regs
    (place (baseOf a.extId) 11 ||| place (keyChunkOf a.extId) 8 ||| place (modfieldOf a.extId) 0) .ok

/-- The class of a module-ID field: 0 broadcast, 1 assigned, 2 unregistered sentinel, 3 not a valid one (R115). -/
def modfieldClass (v : Byte) : Word :=
  if v = 0x00#8 then 0 else if v.toNat ≤ 0x1F then 1 else if v = 0xFF#8 then 2 else 3

/-- `MID_CLASS` (R115). -/
def execMidClass (a : ArgB) (s : State) : Result :=
  if mbzSet a.mbz then refuse s .eBadArg 0 else respond s s.regs (modfieldClass a.v) .ok

end Sys2Proof.Machine
end

