-- ==== Sys2Proof/Machine/System.lean ====
section
/-! DEFINITION. The system commands (spec/43_system.md R230 to R233). None reads `LINK`. -/

namespace Sys2Proof.Machine

/-- `NOP` (R230). -/
def execNop (a : ArgZ) (s : State) : Result :=
  if mbzSet a.mbz then refuse s .eBadArg 0 else respond s s.regs 0 .ok

/-- `CSR_READ` (R231): a read has no side effect; indices 14 and 15 are refused. -/
def execCsrRead (a : ArgCR) (s : State) : Result :=
  if mbzSet a.mbz then refuse s .eBadArg 0
  else
    match csrValue s.regs a.index with
    | some v => respond s s.regs v .ok
    | none => refuse s .eBadArg 0

/-- `CSR_WRITE` (R232): only `CFG` is writable; the result is the old `CFG`. -/
def execCsrWrite (a : ArgCW) (s : State) : Result :=
  if mbzSet a.mbz || mbzSet a.mbzLo then refuse s .eBadArg 0
  else if a.index != 0 then refuse s .eBadArg 0
  else respond s { s.regs with cfg := a.value } (s.regs.cfg.setWidth 32) .ok

/-- `SOFT_RESET` (R233): every register to its value in the table of R35. -/
def execSoftReset (a : ArgZ) (s : State) : Result :=
  if mbzSet a.mbz then refuse s .eBadArg 0 else respond s (Regs.reset s.params) 0 .ok

end Sys2Proof.Machine
end

