-- ==== Sys2Proof/Machine/Dispatch.lean ====
section
/-! DEFINITION. The dispatch: one arm per command of the opcode map (spec/30_encoding.md R74), each one call of its
meaning. -/

namespace Sys2Proof.Machine

def exec (i : Instr) (s : State) : Host.Outcome State Fault Refusal :=
  match i with
  | .nop a => Sys2Proof.Machine.execNop a s
  | .csrRead a => Sys2Proof.Machine.execCsrRead a s
  | .csrWrite a => Sys2Proof.Machine.execCsrWrite a s
  | .softReset a => Sys2Proof.Machine.execSoftReset a s
  | .encStd a => Sys2Proof.Machine.execEncStd a s
  | .encSd a => Sys2Proof.Machine.execEncSd a s
  | .encKey a => Sys2Proof.Machine.execEncKey a s
  | .decStd a => Sys2Proof.Machine.execDecStd a s
  | .decSd a => Sys2Proof.Machine.execDecSd a s
  | .decKey a => Sys2Proof.Machine.execDecKey a s
  | .midClass a => Sys2Proof.Machine.execMidClass a s
  | .reqState a => Sys2Proof.Machine.execReqState a s
  | .reqHeartbeat a => Sys2Proof.Machine.execReqHeartbeat a s
  | .reqCell a => Sys2Proof.Machine.execReqCell a s
  | .reqStatus a => Sys2Proof.Machine.execReqStatus a s
  | .reqRegack a => Sys2Proof.Machine.execReqRegack a s
  | .reqTimesync a => Sys2Proof.Machine.execReqTimesync a s
  | .reqAnnounce a => Sys2Proof.Machine.execReqAnnounce a s
  | .arbTick a => Sys2Proof.Machine.execArbTick a s
  | .awaitClrStatus a => Sys2Proof.Machine.execAwaitClrStatus a s
  | .awaitClrCell a => Sys2Proof.Machine.execAwaitClrCell a s
  | .awaitClrModule a => Sys2Proof.Machine.execAwaitClrModule a s
  | .linkDown a => Sys2Proof.Machine.execLinkDown a s
  | .linkUp a => Sys2Proof.Machine.execLinkUp a s
  | .crcInit a => Sys2Proof.Machine.execCrcInit a s
  | .crcLoad a => Sys2Proof.Machine.execCrcLoad a s
  | .crcByte a => Sys2Proof.Machine.execCrcByte a s
  | .crcWord a => Sys2Proof.Machine.execCrcWord a s
  | .crcRead a => Sys2Proof.Machine.execCrcRead a s
  | .crcCheck a => Sys2Proof.Machine.execCrcCheck a s
  | .xorInit a => Sys2Proof.Machine.execXorInit a s
  | .xorByte a => Sys2Proof.Machine.execXorByte a s
  | .xorWord a => Sys2Proof.Machine.execXorWord a s
  | .xorRead a => Sys2Proof.Machine.execXorRead a s
  | .xorCheck a => Sys2Proof.Machine.execXorCheck a s

end Sys2Proof.Machine
end

