-- ==== Sys2Proof/Machine/Step.lean ====
section
/-! DEFINITION. One step: the execution of one command (spec/00_scope.md R9). The block takes the next command word from
its port, decodes it and executes it; it fetches nothing and has no program counter (spec/10_state.md R22). -/

namespace Sys2Proof.Machine

/-- One command, complete before the next (R56); an illegal `op` is answered, not stopped on (R75); with no command
presented nothing happens (R256). -/
def step (s : State) : Host.Outcome State Fault Refusal :=
  match takeCommand s with
  | none => idle s
  | some (cw, s') =>
    match decode cw with
    | .ok i => exec i s'
    | .error why => illegalCommand s' why

/-- The machine with the command word `w` at the head of its command port, so that the next step executes it. The spec
has no memory to load a program into: the host presents each command (R22, log entry 1). -/
def State.withFetchWord (s : State) (nbits w : Nat) : State :=
  { s with pending := BitVec.ofNat 40 (w % 2 ^ nbits) :: s.pending }

end Sys2Proof.Machine
end

