-- ==== Sys2Proof/Machine/Assembly.lean ====
section
/-! DEFINITION. The textual form of commands and the pseudo-commands (spec/30_encoding.md R80, R81): from a line of text
to the command words it stands for. The machine does not use this file; it says which words a listing of the spec is. -/

namespace Sys2Proof.Machine

/-- The fields a format's text lists, "from bit 0 upward", each as its lowest bit and its width (R72, R80). Format W is
written as one 32-bit number; so is format X, whose ignored bits the spec's own vectors write too
(`DEC_STD 0xF40000FF`). -/
def textFields : Format → List (Nat × Nat)
  | .Z => []
  | .B => [(0, 8)]
  | .H => [(0, 16)]
  | .W => [(0, 32)]
  | .X => [(0, 32)]
  | .ES => [(0, 8), (8, 11)]
  | .ED => [(0, 8), (8, 2), (10, 4), (14, 2), (16, 1)]
  | .EK => [(0, 8), (8, 3), (11, 11)]
  | .RS => [(0, 8), (8, 2)]
  | .RC => [(0, 8), (8, 8)]
  | .T => [(0, 1)]
  | .CR => [(0, 4)]
  | .CW => [(0, 4), (8, 8)]

/-- The operand of the listed numbers: as many numbers as fields, each within its field's width. -/
def packFields : List (Nat × Nat) → List Nat → Option Word
  | [], [] => some 0
  | (lo, w) :: fs, x :: xs =>
    if x < 2 ^ w then (packFields fs xs).map (fun rest => (BitVec.ofNat 32 x <<< lo) ||| rest) else none
  | _, _ => none

/-- One command of the opcode map by its mnemonic. -/
def assembleCore (mnemonic : String) (xs : List Nat) : Option CmdWord :=
  match opcodeMap.find? (fun row => row.mnemonic == mnemonic) with
  | some row => (packFields (textFields row.format) xs).map (packWord row.op)
  | none => none

/-- Four bytes as the operand of a `..._WORD` command, the first in the low end (R81). -/
def fourBytes (b0 b1 b2 b3 : Nat) : Nat := b0 + 2 ^ 8 * b1 + 2 ^ 16 * b2 + 2 ^ 24 * b3

/-- Eight bytes as two commands of one mnemonic; each byte must fit in 8 bits. -/
def assembleChunk (mnemonic : String) (xs : List Nat) : Option (List CmdWord) :=
  match xs with
  | [b0, b1, b2, b3, b4, b5, b6, b7] =>
    if xs.all (· < 256) then
      match assembleCore mnemonic [fourBytes b0 b1 b2 b3], assembleCore mnemonic [fourBytes b4 b5 b6 b7] with
      | some c, some d => some [c, d]
      | _, _ => none
    else none
  | _ => none

/-- A mnemonic or a pseudo-command with its numbers (R80, R81): the command words it expands to. -/
def assemble (mnemonic : String) (xs : List Nat) : Option (List CmdWord) :=
  if mnemonic = "ENC_BCAST" then (assembleCore "ENC_STD" (0x00 :: xs)).map ([·])
  else if mnemonic = "ENC_UNREG" then (assembleCore "ENC_STD" (0xFF :: xs)).map ([·])
  else if mnemonic = "REQ_STATE_ALL" then (assembleCore "REQ_STATE" (0x00 :: xs)).map ([·])
  else if mnemonic = "CRC_CHUNK" then assembleChunk "CRC_WORD" xs
  else if mnemonic = "XOR_CHUNK" then assembleChunk "XOR_WORD" xs
  else if mnemonic = "CFG_SET" then (assembleCore "CSR_WRITE" (0 :: xs)).map ([·])
  else if mnemonic = ".cmd" then
    match xs with
    | [op, arg] => if op < 2 ^ 8 ∧ arg < 2 ^ 32 then some [packWord (BitVec.ofNat 8 op) (BitVec.ofNat 32 arg)] else none
    | _ => none
  else (assembleCore mnemonic xs).map ([·])

/-! ### Lines of text (R80) -/

/-- The value of a digit, decimal or hexadecimal. -/
def digitValue (c : Char) : Option Nat :=
  if '0'.toNat ≤ c.toNat ∧ c.toNat ≤ '9'.toNat then some (c.toNat - '0'.toNat)
  else if 'A'.toNat ≤ c.toNat ∧ c.toNat ≤ 'F'.toNat then some (c.toNat - 'A'.toNat + 10)
  else if 'a'.toNat ≤ c.toNat ∧ c.toNat ≤ 'f'.toNat then some (c.toNat - 'a'.toNat + 10)
  else none

/-- Digits in a radix, from a value so far. -/
def readDigits (radix : Nat) : Nat → List Char → Option Nat
  | acc, [] => some acc
  | acc, c :: cs =>
    match digitValue c with
    | some d => if d < radix then readDigits radix (radix * acc + d) cs else none
    | none => none

/-- "Numbers are decimal or `0x` hexadecimal." -/
def readNumber : List Char → Option Nat
  | [] => none
  | ['0', 'x'] => none
  | '0' :: 'x' :: cs => readDigits 16 0 cs
  | cs => readDigits 10 0 cs

/-- A character between tokens: a space or a comma. -/
def isSeparator (c : Char) : Bool := c == ' ' || c == ','

/-- The tokens of a text, given the one being read. -/
def tokensFrom : List Char → List Char → List (List Char)
  | cur, [] => if cur.isEmpty then [] else [cur.reverse]
  | cur, c :: cs =>
    if isSeparator c then
      if cur.isEmpty then tokensFrom [] cs else cur.reverse :: tokensFrom [] cs
    else tokensFrom (c :: cur) cs

/-- The tokens before a comment and before the expected response `=> ...`. -/
def lineTokens (cs : List Char) : List (List Char) :=
  (tokensFrom [] (cs.takeWhile (· != ';'))).takeWhile (· != ['=', '>'])

/-- The numbers of a list of tokens. -/
def readNumbers : List (List Char) → Option (List Nat)
  | [] => some []
  | t :: ts =>
    match readNumber t, readNumbers ts with
    | some x, some xs => some (x :: xs)
    | _, _ => none

/-- One line: no command, or the words of its command or pseudo-command; `none` where the line is none of these. -/
def assembleLine (cs : List Char) : Option (List CmdWord) :=
  match lineTokens cs with
  | [] => some []
  | t :: ts =>
    match readNumbers ts with
    | some xs => assemble (String.ofList t) xs
    | none => none

end Sys2Proof.Machine
end

