-- ==== Sys2Proof/Safety.lean ====
section
/-! DEFINITION. What statements about runs speak of: the invariant of spec/10_state.md R34, the states that the host can
bring the machine to, the trace of a run, and what counts as a run in which nothing was refused. -/

namespace Sys2Proof.Machine

/-- The seven levels, the highest first. -/
def allLevels : List Level := [.stateChange, .heartbeat, .cellDetail, .status, .regAck, .timeSync, .announce]

/-! ### R34 (a) to (d) -/

/-- R34 (a): bit 0 of `REQ`, `AW_STATUS` and `AW_CELL` is 0. -/
abbrev Regs.BitZeroClear (r : Regs) : Prop :=
  r.req.getLsbD 0 = false ∧ r.awStatus.getLsbD 0 = false ∧ r.awCell.getLsbD 0 = false

/-- R34 (b): with the link down nothing is requested and nothing is in flight. -/
abbrev Regs.QuietWhenDown (r : Regs) : Prop :=
  r.link = false → r.req = 0 ∧ r.awStatus = 0 ∧ r.awCell = 0

/-- R34 (c): a latched request of level 4 or 3 names a module whose in-flight bit is 0. -/
abbrev Regs.GatesHold (r : Regs) : Prop :=
  (r.req.getLsbD 4 = true → r.awStatus.getLsbD (lowByte r.param4).toNat = false) ∧
    (r.req.getLsbD 3 = true → r.awCell.getLsbD (lowByte r.param3).toNat = false)

/-- `PARAM[k]` satisfies the operand check of the level-`k` request (R34 (d), R27, R146 to R152). -/
def operandOk (k : Level) (p : Half) : Bool :=
  match k with
  | .stateChange => decide (p.toNat < 2 ^ 10) && decide (p.toNat % 256 ≤ 0x1F)
  | .heartbeat => decide (p.toNat ≤ 3)
  | .cellDetail => decide (1 ≤ p.toNat % 256) && decide (p.toNat % 256 ≤ 31)
  | .status => decide (1 ≤ p.toNat) && decide (p.toNat ≤ 31)
  | .regAck => decide (1 ≤ p.toNat) && decide (p.toNat ≤ 31)
  | .timeSync => decide (p = 0)
  | .announce => decide (p = 0)

/-- R34 (d): while `REQ[k] = 1`, `PARAM[k]` satisfies the operand check of its command. -/
abbrev Regs.OperandsOk (r : Regs) : Prop :=
  ∀ k ∈ allLevels, r.req.getLsbD k.num = true → operandOk k (r.param k) = true

/-- R34 (a) to (d), "what every reachable state satisfies". -/
abbrev Regs.Consistent (r : Regs) : Prop :=
  r.BitZeroClear ∧ r.QuietWhenDown ∧ r.GatesHold ∧ r.OperandsOk

/-! ### What each command may write -/

/-- The registers of R20 by name. -/
inductive RegName where
  | cfg | req | param (k : Level) | awStatus | awCell | link | crc | xsum
  deriving DecidableEq, Repr

/-- Two register files agree on a named register. -/
abbrev Regs.Agree (n : RegName) (r r' : Regs) : Prop :=
  match n with
  | .cfg => r.cfg = r'.cfg
  | .req => r.req = r'.req
  | .param k => r.param k = r'.param k
  | .awStatus => r.awStatus = r'.awStatus
  | .awCell => r.awCell = r'.awCell
  | .link => r.link = r'.link
  | .crc => r.crc = r'.crc
  | .xsum => r.xsum = r'.xsum

/-- The "State written" line of each command's rule: every register the command may change. -/
def stateWritten : Instr → List RegName
  | .nop _ => []
  | .csrRead _ => []
  | .csrWrite _ => [.cfg]
  | .softReset _ => [.cfg, .req, .param .stateChange, .param .heartbeat, .param .cellDetail, .param .status,
      .param .regAck, .param .timeSync, .param .announce, .awStatus, .awCell, .link, .crc, .xsum]
  | .encStd _ => []
  | .encSd _ => []
  | .encKey _ => []
  | .decStd _ => []
  | .decSd _ => []
  | .decKey _ => []
  | .midClass _ => []
  | .reqState _ => [.req, .param .stateChange]
  | .reqHeartbeat _ => [.req, .param .heartbeat]
  | .reqCell _ => [.req, .param .cellDetail]
  | .reqStatus _ => [.req, .param .status]
  | .reqRegack _ => [.req, .param .regAck]
  | .reqTimesync _ => [.req, .param .timeSync]
  | .reqAnnounce _ => [.req, .param .announce]
  | .arbTick _ => [.req, .awStatus, .awCell]
  | .awaitClrStatus _ => [.awStatus]
  | .awaitClrCell _ => [.awCell]
  | .awaitClrModule _ => [.awStatus, .awCell]
  | .linkDown _ => [.link, .req, .awStatus, .awCell]
  | .linkUp _ => [.link, .awStatus, .awCell, .req, .param .announce]
  | .crcInit _ => [.crc]
  | .crcLoad _ => [.crc]
  | .crcByte _ => [.crc]
  | .crcWord _ => [.crc]
  | .crcRead _ => []
  | .crcCheck _ => []
  | .xorInit _ => [.xsum]
  | .xorByte _ => [.xsum]
  | .xorWord _ => [.xsum]
  | .xorRead _ => []
  | .xorCheck _ => []

/-! ### The units and what each may change (R74, R208 (f)) -/

/-- The unit a command belongs to, the column "unit" of R74. -/
inductive CommandUnit where
  | system | codec | arbiter | checksum
  deriving DecidableEq, Repr

/-- The high nibble of a unit's operation codes (R74). -/
def CommandUnit.nibble : CommandUnit → Nat
  | .system => 0
  | .codec => 1
  | .arbiter => 2
  | .checksum => 3

/-- The unit of each command (R74). -/
def unitOf : Instr → CommandUnit
  | .nop _ => .system
  | .csrRead _ => .system
  | .csrWrite _ => .system
  | .softReset _ => .system
  | .encStd _ => .codec
  | .encSd _ => .codec
  | .encKey _ => .codec
  | .decStd _ => .codec
  | .decSd _ => .codec
  | .decKey _ => .codec
  | .midClass _ => .codec
  | .reqState _ => .arbiter
  | .reqHeartbeat _ => .arbiter
  | .reqCell _ => .arbiter
  | .reqStatus _ => .arbiter
  | .reqRegack _ => .arbiter
  | .reqTimesync _ => .arbiter
  | .reqAnnounce _ => .arbiter
  | .arbTick _ => .arbiter
  | .awaitClrStatus _ => .arbiter
  | .awaitClrCell _ => .arbiter
  | .awaitClrModule _ => .arbiter
  | .linkDown _ => .arbiter
  | .linkUp _ => .arbiter
  | .crcInit _ => .checksum
  | .crcLoad _ => .checksum
  | .crcByte _ => .checksum
  | .crcWord _ => .checksum
  | .crcRead _ => .checksum
  | .crcCheck _ => .checksum
  | .xorInit _ => .checksum
  | .xorByte _ => .checksum
  | .xorWord _ => .checksum
  | .xorRead _ => .checksum
  | .xorCheck _ => .checksum

/-- Two register files differ at most in `CRC` and `XSUM`: what R208 (f) leaves to a command of U3. -/
abbrev Regs.SameButChecksums (r r' : Regs) : Prop :=
  r'.cfg = r.cfg ∧ r'.req = r.req ∧ (∀ k ∈ allLevels, r'.param k = r.param k) ∧ r'.awStatus = r.awStatus ∧
    r'.awCell = r.awCell ∧ r'.link = r.link

/-- Two register files agree in `CRC` and `XSUM`: what R208 (f) asks of a command outside U3. -/
abbrev Regs.SameChecksums (r r' : Regs) : Prop := r'.crc = r.crc ∧ r'.xsum = r.xsum

/-! ### What each command may answer (R252) -/

/-- The table of R252: the statuses each command can return. -/
def statusesOf : Instr → List Status
  | .nop _ => [.ok, .eBadArg]
  | .csrRead _ => [.ok, .eBadArg]
  | .csrWrite _ => [.ok, .eBadArg]
  | .softReset _ => [.ok, .eBadArg]
  | .encStd _ => [.ok, .eBadArg]
  | .encSd _ => [.ok, .eBadArg]
  | .encKey _ => [.ok, .eBadArg, .eUnknownId]
  | .decStd _ => [.ok, .okAliased, .eUnknownId]
  | .decSd _ => [.ok, .eUnknownId, .eBadArg]
  | .decKey _ => [.ok, .eUnknownId]
  | .midClass _ => [.ok, .eBadArg]
  | .reqState _ => [.ok, .okCoalesced, .eBadArg, .eLinkDown]
  | .reqHeartbeat _ => [.ok, .okCoalesced, .eBadArg, .eLinkDown]
  | .reqCell _ => [.ok, .okCoalesced, .eBadArg, .eLinkDown, .eGated]
  | .reqStatus _ => [.ok, .okCoalesced, .eBadArg, .eLinkDown, .eGated]
  | .reqRegack _ => [.ok, .okCoalesced, .eBadArg, .eLinkDown]
  | .reqTimesync _ => [.ok, .okCoalesced, .eBadArg, .eLinkDown]
  | .reqAnnounce _ => [.ok, .okCoalesced, .eBadArg, .eLinkDown]
  | .arbTick _ => [.ok, .okIdle, .txDropped, .eBadArg, .eLinkDown, .eTxBusy]
  | .awaitClrStatus _ => [.ok, .eBadArg]
  | .awaitClrCell _ => [.ok, .eBadArg]
  | .awaitClrModule _ => [.ok, .eBadArg]
  | .linkDown _ => [.ok, .eBadArg]
  | .linkUp _ => [.ok, .eBadArg]
  | .crcInit _ => [.ok, .eBadArg]
  | .crcLoad _ => [.ok, .eBadArg]
  | .crcByte _ => [.ok, .eBadArg]
  | .crcWord _ => [.ok]
  | .crcRead _ => [.ok, .eBadArg]
  | .crcCheck _ => [.ok, .eBadArg, .eBadCrc]
  | .xorInit _ => [.ok, .eBadArg]
  | .xorByte _ => [.ok, .eBadArg]
  | .xorWord _ => [.ok]
  | .xorRead _ => [.ok, .eBadArg]
  | .xorCheck _ => [.ok, .eBadArg, .eBadChecksum]

/-- How many of the seven request flags are set. -/
def pendingCount (req : Byte) : Nat := (allLevels.filter (fun k => req.getLsbD k.num)).length

/-! ### Runs (R9, R56, R296) -/

/-- The machine after reset under a choice of the configuration parameters. -/
def resetWith (p : Params) : State where
  regs := Regs.reset p
  params := p
  pending := []
  responses := []

/-- The states that the host can bring the machine to from reset: it presents commands in any order, and the block takes
steps in between (R9, R34, R56). -/
inductive Reachable (p : Params) : State → Prop where
  | reset : Reachable p (resetWith p)
  | present (cw : CmdWord) (s : State) : Reachable p s → Reachable p (present cw s)
  | step (s t : State) : Reachable p s → step s = .next t → Reachable p t

/-- One executed command of a run: the word, the registers it met, and the response it was given. -/
structure Event where
  cw : CmdWord
  before : Regs
  resp : Option Response
  deriving DecidableEq, Repr

/-- The events of the first `n` steps from `s`; a step with no command presented is no event. -/
def trace : Nat → State → List Event
  | 0, _ => []
  | n + 1, s =>
    match s.pending, step s with
    | cw :: _, .next t => ⟨cw, s.regs, t.responses.getLast?⟩ :: trace n t
    | _, _ => []

/-- The command of an event is a tick that granted level 4 for module `m` with the transmitter ready (R154). -/
def Event.grantsStatus (m : Byte) (e : Event) : Bool :=
  match decode e.cw with
  | .ok (.arbTick _) => e.resp == some ⟨0x00040000#32 ||| m.setWidth 32, .ok⟩
  | _ => false

/-- The command of an event clears `AW_STATUS[m]`, as R28 lists the commands that do; a refused command clears
nothing. -/
def Event.clearsStatus (m : Byte) (e : Event) : Bool :=
  match decode e.cw with
  | .ok (.awaitClrStatus a) => a.v == m && a.mbz == 0
  | .ok (.awaitClrModule a) => a.v == m && a.mbz == 0
  | .ok (.linkDown a) => a.mbz == 0
  | .ok (.linkUp a) => a.mbz == 0 && !e.before.link
  | .ok (.softReset a) => a.mbz == 0
  | _ => false

/-- "No command was refused": a claim over the trace of responses, "since the state keeps no mark" (R254). -/
def noneRefused (rs : List Response) : Bool := rs.all (fun r => !r.st.isError)

end Sys2Proof.Machine
end

