-- ==== Sys2Proof/WellFormed.lean ====
section
/-! DEFINITION. Well-formed instructions: every must-be-zero bit of the format is 0 (spec/30_encoding.md R72, R76).
A field value that a command refuses (a reserved register index, a module outside 1..31) is NOT an ill-formed
instruction: R78 calls these "operand values a command refuses, each in its own rule". The machine runs an ill-formed
instruction too: it answers `E_BAD_ARG` (R76). -/

namespace Sys2Proof

/-- Format Z has no must-be-zero bit set. -/
def ArgZ.wf (a : ArgZ) : Bool := a.mbz == 0

/-- Format B has no must-be-zero bit set. -/
def ArgB.wf (a : ArgB) : Bool := a.mbz == 0

/-- Format H has no must-be-zero bit set. -/
def ArgH.wf (a : ArgH) : Bool := a.mbz == 0

/-- Format ES has no must-be-zero bit set. -/
def ArgES.wf (a : ArgES) : Bool := a.mbz == 0

/-- Format ED has no must-be-zero bit set. -/
def ArgED.wf (a : ArgED) : Bool := a.mbz == 0

/-- Format EK has no must-be-zero bit set. -/
def ArgEK.wf (a : ArgEK) : Bool := a.mbz == 0

/-- Format RS has no must-be-zero bit set. -/
def ArgRS.wf (a : ArgRS) : Bool := a.mbz == 0

/-- Format RC has no must-be-zero bit set. -/
def ArgRC.wf (a : ArgRC) : Bool := a.mbz == 0

/-- Format T has no must-be-zero bit set. -/
def ArgT.wf (a : ArgT) : Bool := a.mbz == 0

/-- Format CR has no must-be-zero bit set. -/
def ArgCR.wf (a : ArgCR) : Bool := a.mbz == 0

/-- Format CW has no must-be-zero bit set: it has two must-be-zero ranges. -/
def ArgCW.wf (a : ArgCW) : Bool := a.mbzLo == 0 && a.mbz == 0

/-- The must-be-zero check of each command's format. Formats W and X have no must-be-zero bit. -/
def WellFormed : Instr → Bool
  | .nop a => a.wf
  | .csrRead a => a.wf
  | .csrWrite a => a.wf
  | .softReset a => a.wf
  | .encStd a => a.wf
  | .encSd a => a.wf
  | .encKey a => a.wf
  | .decStd _ => true
  | .decSd _ => true
  | .decKey _ => true
  | .midClass a => a.wf
  | .reqState a => a.wf
  | .reqHeartbeat a => a.wf
  | .reqCell a => a.wf
  | .reqStatus a => a.wf
  | .reqRegack a => a.wf
  | .reqTimesync a => a.wf
  | .reqAnnounce a => a.wf
  | .arbTick a => a.wf
  | .awaitClrStatus a => a.wf
  | .awaitClrCell a => a.wf
  | .awaitClrModule a => a.wf
  | .linkDown a => a.wf
  | .linkUp a => a.wf
  | .crcInit a => a.wf
  | .crcLoad a => a.wf
  | .crcByte a => a.wf
  | .crcWord _ => true
  | .crcRead a => a.wf
  | .crcCheck a => a.wf
  | .xorInit a => a.wf
  | .xorByte a => a.wf
  | .xorWord _ => true
  | .xorRead a => a.wf
  | .xorCheck a => a.wf

end Sys2Proof
end

