-- ==== Sys2Proof/Certificates/Slice0/Obligations.lean ====
section
/-! DEFINITION. The statements for the provers. Each docstring names the rule of spec/ that the statement formalises.

A statement of a command's rule has two parts: the command's encoding and operands (the decoder reads exactly these fields
from a word with the rule's operation code), and what the command does, as an equation `exec i s = .next t` for every
state `s` and every operand that meets the clause's hypotheses. `s.answered r res st` is `s` with the registers `r` and
the response `(res, st)` added; every register a clause does not write, the configuration and the commands still at the
port are therefore stated to be unchanged. The block has no memory. -/

open Sys2Proof Sys2Proof.Machine

/-! ### System commands (spec/43_system.md) -/

/-- R230, `NOP`. -/
def Obligations.NopDoesNothing : Prop :=
  (∀ arg : Word, decode (0x00#8 ++ arg) = .ok (.nop ⟨arg⟩)) ∧
  ∀ s : State,
    exec (.nop ⟨0⟩) s = .next (s.answered s.regs 0 .ok) ∧
    ∀ mbz : BitVec 32, mbz ≠ 0 → exec (.nop ⟨mbz⟩) s = .next (s.answered s.regs 0 .eBadArg)

/-- R231, `CSR_READ`, index by index. -/
def Obligations.CsrReadGivesTheRegister : Prop :=
  (∀ arg : Word, decode (0x01#8 ++ arg) = .ok (.csrRead ⟨arg.extractLsb' 0 4, arg.extractLsb' 4 28⟩)) ∧
  ∀ s : State,
    exec (.csrRead ⟨0, 0⟩) s = .next (s.answered s.regs (s.regs.cfg.setWidth 32) .ok) ∧
    exec (.csrRead ⟨1, 0⟩) s = .next (s.answered s.regs (s.regs.param1.setWidth 32) .ok) ∧
    exec (.csrRead ⟨2, 0⟩) s = .next (s.answered s.regs (s.regs.param2.setWidth 32) .ok) ∧
    exec (.csrRead ⟨3, 0⟩) s = .next (s.answered s.regs (s.regs.param3.setWidth 32) .ok) ∧
    exec (.csrRead ⟨4, 0⟩) s = .next (s.answered s.regs (s.regs.param4.setWidth 32) .ok) ∧
    exec (.csrRead ⟨5, 0⟩) s = .next (s.answered s.regs (s.regs.param5.setWidth 32) .ok) ∧
    exec (.csrRead ⟨6, 0⟩) s = .next (s.answered s.regs (s.regs.param6.setWidth 32) .ok) ∧
    exec (.csrRead ⟨7, 0⟩) s = .next (s.answered s.regs (s.regs.param7.setWidth 32) .ok) ∧
    exec (.csrRead ⟨8, 0⟩) s = .next (s.answered s.regs (s.regs.req.setWidth 32) .ok) ∧
    exec (.csrRead ⟨9, 0⟩) s = .next (s.answered s.regs s.regs.awStatus .ok) ∧
    exec (.csrRead ⟨10, 0⟩) s = .next (s.answered s.regs s.regs.awCell .ok) ∧
    exec (.csrRead ⟨11, 0⟩) s = .next (s.answered s.regs (if s.regs.link then 1 else 0) .ok) ∧
    exec (.csrRead ⟨12, 0⟩) s = .next (s.answered s.regs (s.regs.crc.setWidth 32) .ok) ∧
    exec (.csrRead ⟨13, 0⟩) s = .next (s.answered s.regs (s.regs.xsum.setWidth 32) .ok) ∧
    exec (.csrRead ⟨14, 0⟩) s = .next (s.answered s.regs 0 .eBadArg) ∧
    exec (.csrRead ⟨15, 0⟩) s = .next (s.answered s.regs 0 .eBadArg) ∧
    ∀ (index : BitVec 4) (mbz : BitVec 28), mbz ≠ 0 →
      exec (.csrRead ⟨index, mbz⟩) s = .next (s.answered s.regs 0 .eBadArg)

/-- R232, `CSR_WRITE`: only index 0, `CFG`, is writable. -/
def Obligations.CsrWriteWritesOnlyCfg : Prop :=
  (∀ arg : Word, decode (0x02#8 ++ arg) =
    .ok (.csrWrite ⟨arg.extractLsb' 0 4, arg.extractLsb' 4 4, arg.extractLsb' 8 8, arg.extractLsb' 16 16⟩)) ∧
  ∀ (s : State) (value : Byte),
    exec (.csrWrite ⟨0, 0, value, 0⟩) s =
      .next (s.answered { s.regs with cfg := value } (s.regs.cfg.setWidth 32) .ok) ∧
    ∀ (index mbzLo : BitVec 4) (mbz : BitVec 16), index ≠ 0 ∨ mbzLo ≠ 0 ∨ mbz ≠ 0 →
      exec (.csrWrite ⟨index, mbzLo, value, mbz⟩) s = .next (s.answered s.regs 0 .eBadArg)

/-- R233, `SOFT_RESET`: every register to its reset value. -/
def Obligations.SoftResetRestoresEveryRegister : Prop :=
  (∀ arg : Word, decode (0x0F#8 ++ arg) = .ok (.softReset ⟨arg⟩)) ∧
  ∀ s : State,
    exec (.softReset ⟨0⟩) s = .next (s.answered
      { cfg := s.params.cfgReset, req := 0, param1 := 0, param2 := 0, param3 := 0, param4 := 0, param5 := 0,
        param6 := 0, param7 := 0, awStatus := 0, awCell := 0, link := false, crc := s.params.crcInit, xsum := 0 }
      0 .ok) ∧
    ∀ mbz : BitVec 32, mbz ≠ 0 → exec (.softReset ⟨mbz⟩) s = .next (s.answered s.regs 0 .eBadArg)

/-! ### Unit U1, the codec (spec/40_id_codec.md) -/

/-- R108, `ENC_STD`. -/
def Obligations.EncStdBuildsTheIdentifier : Prop :=
  (∀ arg : Word, decode (0x10#8 ++ arg) =
    .ok (.encStd ⟨arg.extractLsb' 0 8, arg.extractLsb' 8 11, arg.extractLsb' 19 13⟩)) ∧
  ∀ (s : State) (modfield : Byte) (base : BaseId),
    exec (.encStd ⟨modfield, base, 0⟩) s =
      .next (s.answered s.regs ((base.setWidth 32 <<< 18) ||| modfield.setWidth 32) .ok) ∧
    ∀ mbz : BitVec 13, mbz ≠ 0 →
      exec (.encStd ⟨modfield, base, mbz⟩) s = .next (s.answered s.regs 0 .eBadArg)

/-- R109, `ENC_SD`: `0x0FC60000 | arg[16:0]`, the fields at the positions of the SD layout. -/
def Obligations.EncSdBuildsTheIdentifier : Prop :=
  (∀ arg : Word, decode (0x11#8 ++ arg) =
    .ok (.encSd ⟨arg.extractLsb' 0 8, arg.extractLsb' 8 2, arg.extractLsb' 10 4, arg.extractLsb' 14 2,
      arg.extractLsb' 16 1, arg.extractLsb' 17 15⟩)) ∧
  ∀ (s : State) (moduleId : Byte) (transferId : BitVec 2) (chunkNum : BitVec 4) (windowId : BitVec 2)
      (lastChunk : BitVec 1),
    exec (.encSd ⟨moduleId, transferId, chunkNum, windowId, lastChunk, 0⟩) s =
      .next (s.answered s.regs
        (0x0FC60000#32 ||| (lastChunk.setWidth 32 <<< 16) ||| (windowId.setWidth 32 <<< 14) |||
          (chunkNum.setWidth 32 <<< 10) ||| (transferId.setWidth 32 <<< 8) ||| moduleId.setWidth 32) .ok) ∧
    ∀ mbz : BitVec 15, mbz ≠ 0 →
      exec (.encSd ⟨moduleId, transferId, chunkNum, windowId, lastChunk, mbz⟩) s =
        .next (s.answered s.regs 0 .eBadArg)

/-- R110, `ENC_KEY`: the must-be-zero check comes before the base. -/
def Obligations.EncKeyBuildsTheIdentifier : Prop :=
  (∀ arg : Word, decode (0x12#8 ++ arg) =
    .ok (.encKey ⟨arg.extractLsb' 0 8, arg.extractLsb' 8 3, arg.extractLsb' 11 11, arg.extractLsb' 22 10⟩)) ∧
  ∀ (s : State) (low : Byte) (chunk : BitVec 3) (base : BaseId) (mbz : BitVec 10),
    (mbz = 0 → base = 0x407#11 ∨ base = 0x408#11 ∨ base = 0x409#11 →
      exec (.encKey ⟨low, chunk, base, mbz⟩) s =
        .next (s.answered s.regs
          ((base.setWidth 32 <<< 18) ||| (chunk.setWidth 32 <<< 8) ||| low.setWidth 32) .ok)) ∧
    (mbz = 0 → ¬(base = 0x407#11 ∨ base = 0x408#11 ∨ base = 0x409#11) →
      exec (.encKey ⟨low, chunk, base, mbz⟩) s = .next (s.answered s.regs 0 .eUnknownId)) ∧
    (mbz ≠ 0 → exec (.encKey ⟨low, chunk, base, mbz⟩) s = .next (s.answered s.regs 0 .eBadArg))

/-- R112, `DEC_STD`: the set by range, the base-0 case under `CFG[0] = 1`, and the middle bits preserved. -/
def Obligations.DecStdReadsTheIdentifier : Prop :=
  (∀ arg : Word, decode (0x14#8 ++ arg) = .ok (.decStd ⟨arg.extractLsb' 0 29, arg.extractLsb' 29 3⟩)) ∧
  ∀ (s : State) (x : ExtId) (ign : BitVec 3) (base : BaseId) (mid : BitVec 10) (m : Byte),
    base = x.extractLsb' 18 11 → mid = x.extractLsb' 8 10 → m = x.extractLsb' 0 8 →
    (((0x500 ≤ base.toNat ∧ base.toNat ≤ 0x51F) ∨ (0x3F0 ≤ base.toNat ∧ base.toNat ≤ 0x3F3)) →
      exec (.decStd ⟨x, ign⟩) s =
        .next (s.answered s.regs
          ((mid.setWidth 32 <<< 19) ||| (base.setWidth 32 <<< 8) ||| m.setWidth 32) .ok)) ∧
    (base = 0 → s.regs.cfg.getLsbD 0 = true →
      exec (.decStd ⟨x, ign⟩) s =
        .next (s.answered s.regs
          ((mid.setWidth 32 <<< 19) ||| (0x500#32 <<< 8) ||| m.setWidth 32) .okAliased)) ∧
    (¬((0x500 ≤ base.toNat ∧ base.toNat ≤ 0x51F) ∨ (0x3F0 ≤ base.toNat ∧ base.toNat ≤ 0x3F3)) →
      ¬(base = 0 ∧ s.regs.cfg.getLsbD 0 = true) →
      exec (.decStd ⟨x, ign⟩) s = .next (s.answered s.regs 0 .eUnknownId))

/-- R113, `DEC_SD`: the base is checked first, then the mode bit. -/
def Obligations.DecSdReadsTheIdentifier : Prop :=
  (∀ arg : Word, decode (0x15#8 ++ arg) = .ok (.decSd ⟨arg.extractLsb' 0 29, arg.extractLsb' 29 3⟩)) ∧
  ∀ (s : State) (x : ExtId) (ign : BitVec 3),
    (x.extractLsb' 18 11 ≠ 0x3F1#11 →
      exec (.decSd ⟨x, ign⟩) s = .next (s.answered s.regs 0 .eUnknownId)) ∧
    (x.extractLsb' 18 11 = 0x3F1#11 → x.getLsbD 17 = false →
      exec (.decSd ⟨x, ign⟩) s = .next (s.answered s.regs 0 .eBadArg)) ∧
    (x.extractLsb' 18 11 = 0x3F1#11 → x.getLsbD 17 = true →
      exec (.decSd ⟨x, ign⟩) s = .next (s.answered s.regs ((x.extractLsb' 0 18).setWidth 32) .ok))

/-- R114, `DEC_KEY`: identifier bits 17..11 do not matter. -/
def Obligations.DecKeyReadsTheIdentifier : Prop :=
  (∀ arg : Word, decode (0x16#8 ++ arg) = .ok (.decKey ⟨arg.extractLsb' 0 29, arg.extractLsb' 29 3⟩)) ∧
  ∀ (s : State) (x : ExtId) (ign : BitVec 3) (base : BaseId), base = x.extractLsb' 18 11 →
    ((base = 0x407#11 ∨ base = 0x408#11 ∨ base = 0x409#11) →
      exec (.decKey ⟨x, ign⟩) s =
        .next (s.answered s.regs
          ((base.setWidth 32 <<< 11) ||| ((x.extractLsb' 8 3).setWidth 32 <<< 8) |||
            (x.extractLsb' 0 8).setWidth 32) .ok)) ∧
    (¬(base = 0x407#11 ∨ base = 0x408#11 ∨ base = 0x409#11) →
      exec (.decKey ⟨x, ign⟩) s = .next (s.answered s.regs 0 .eUnknownId))

/-- R115, `MID_CLASS`. -/
def Obligations.MidClassClassifies : Prop :=
  (∀ arg : Word, decode (0x17#8 ++ arg) = .ok (.midClass ⟨arg.extractLsb' 0 8, arg.extractLsb' 8 24⟩)) ∧
  ∀ (s : State) (v : Byte) (mbz : BitVec 24),
    (mbz = 0 → v = 0x00#8 → exec (.midClass ⟨v, mbz⟩) s = .next (s.answered s.regs 0 .ok)) ∧
    (mbz = 0 → 0x01 ≤ v.toNat ∧ v.toNat ≤ 0x1F →
      exec (.midClass ⟨v, mbz⟩) s = .next (s.answered s.regs 1 .ok)) ∧
    (mbz = 0 → v = 0xFF#8 → exec (.midClass ⟨v, mbz⟩) s = .next (s.answered s.regs 2 .ok)) ∧
    (mbz = 0 → 0x20 ≤ v.toNat ∧ v.toNat ≤ 0xFE →
      exec (.midClass ⟨v, mbz⟩) s = .next (s.answered s.regs 3 .ok)) ∧
    (mbz ≠ 0 → exec (.midClass ⟨v, mbz⟩) s = .next (s.answered s.regs 0 .eBadArg))

/-! ### Unit U2, the requests (spec/41_arbiter.md) -/

/-- R146, `REQ_STATE`, with the common procedure of R143 for level 1. -/
def Obligations.ReqStateLatchesLevelOne : Prop :=
  (∀ arg : Word, decode (0x21#8 ++ arg) =
    .ok (.reqState ⟨arg.extractLsb' 0 8, arg.extractLsb' 8 2, arg.extractLsb' 10 22⟩)) ∧
  ∀ (s : State) (target : Byte) (state : BitVec 2) (mbz : BitVec 22),
    (mbz ≠ 0 ∨ 0x1F < target.toNat →
      exec (.reqState ⟨target, state, mbz⟩) s = .next (s.answered s.regs 0 .eBadArg)) ∧
    (mbz = 0 → target.toNat ≤ 0x1F → s.regs.link = false →
      exec (.reqState ⟨target, state, mbz⟩) s = .next (s.answered s.regs 0 .eLinkDown)) ∧
    (mbz = 0 → target.toNat ≤ 0x1F → s.regs.link = true → s.regs.req.getLsbD 1 = false →
      exec (.reqState ⟨target, state, mbz⟩) s = .next (s.answered
        { s.regs with req := s.regs.req ||| 0x02#8, param1 := (state.setWidth 16 <<< 8) ||| target.setWidth 16 }
        0 .ok)) ∧
    (mbz = 0 → target.toNat ≤ 0x1F → s.regs.link = true → s.regs.req.getLsbD 1 = true →
      exec (.reqState ⟨target, state, mbz⟩) s = .next (s.answered
        { s.regs with req := s.regs.req ||| 0x02#8, param1 := (state.setWidth 16 <<< 8) ||| target.setWidth 16 }
        (s.regs.param1.setWidth 32) .okCoalesced))

/-- R147, `REQ_HEARTBEAT`, with the common procedure of R143 for level 2. -/
def Obligations.ReqHeartbeatLatchesLevelTwo : Prop :=
  (∀ arg : Word, decode (0x22#8 ++ arg) = .ok (.reqHeartbeat ⟨arg.extractLsb' 0 8, arg.extractLsb' 8 24⟩)) ∧
  ∀ (s : State) (v : Byte) (mbz : BitVec 24),
    (mbz ≠ 0 ∨ 3 < v.toNat →
      exec (.reqHeartbeat ⟨v, mbz⟩) s = .next (s.answered s.regs 0 .eBadArg)) ∧
    (mbz = 0 → v.toNat ≤ 3 → s.regs.link = false →
      exec (.reqHeartbeat ⟨v, mbz⟩) s = .next (s.answered s.regs 0 .eLinkDown)) ∧
    (mbz = 0 → v.toNat ≤ 3 → s.regs.link = true → s.regs.req.getLsbD 2 = false →
      exec (.reqHeartbeat ⟨v, mbz⟩) s = .next (s.answered
        { s.regs with req := s.regs.req ||| 0x04#8, param2 := v.setWidth 16 } 0 .ok)) ∧
    (mbz = 0 → v.toNat ≤ 3 → s.regs.link = true → s.regs.req.getLsbD 2 = true →
      exec (.reqHeartbeat ⟨v, mbz⟩) s = .next (s.answered
        { s.regs with req := s.regs.req ||| 0x04#8, param2 := v.setWidth 16 }
        (s.regs.param2.setWidth 32) .okCoalesced))

/-- R148, `REQ_CELL`, with the common procedure of R143 for level 3 and the gate of R144. -/
def Obligations.ReqCellLatchesLevelThree : Prop :=
  (∀ arg : Word, decode (0x23#8 ++ arg) =
    .ok (.reqCell ⟨arg.extractLsb' 0 8, arg.extractLsb' 8 8, arg.extractLsb' 16 16⟩)) ∧
  ∀ (s : State) (m cell : Byte) (mbz : BitVec 16),
    (mbz ≠ 0 ∨ m.toNat < 1 ∨ 31 < m.toNat →
      exec (.reqCell ⟨m, cell, mbz⟩) s = .next (s.answered s.regs 0 .eBadArg)) ∧
    (mbz = 0 → 1 ≤ m.toNat ∧ m.toNat ≤ 31 → s.regs.link = false →
      exec (.reqCell ⟨m, cell, mbz⟩) s = .next (s.answered s.regs 0 .eLinkDown)) ∧
    (mbz = 0 → 1 ≤ m.toNat ∧ m.toNat ≤ 31 → s.regs.link = true → s.regs.awCell.getLsbD m.toNat = true →
      exec (.reqCell ⟨m, cell, mbz⟩) s = .next (s.answered s.regs 0 .eGated)) ∧
    (mbz = 0 → 1 ≤ m.toNat ∧ m.toNat ≤ 31 → s.regs.link = true → s.regs.awCell.getLsbD m.toNat = false →
      s.regs.req.getLsbD 3 = false →
      exec (.reqCell ⟨m, cell, mbz⟩) s = .next (s.answered
        { s.regs with req := s.regs.req ||| 0x08#8, param3 := (cell.setWidth 16 <<< 8) ||| m.setWidth 16 }
        0 .ok)) ∧
    (mbz = 0 → 1 ≤ m.toNat ∧ m.toNat ≤ 31 → s.regs.link = true → s.regs.awCell.getLsbD m.toNat = false →
      s.regs.req.getLsbD 3 = true →
      exec (.reqCell ⟨m, cell, mbz⟩) s = .next (s.answered
        { s.regs with req := s.regs.req ||| 0x08#8, param3 := (cell.setWidth 16 <<< 8) ||| m.setWidth 16 }
        (s.regs.param3.setWidth 32) .okCoalesced))

/-- R149, `REQ_STATUS`, with the common procedure of R143 for level 4 and the gate of R144. -/
def Obligations.ReqStatusLatchesLevelFour : Prop :=
  (∀ arg : Word, decode (0x24#8 ++ arg) = .ok (.reqStatus ⟨arg.extractLsb' 0 8, arg.extractLsb' 8 24⟩)) ∧
  ∀ (s : State) (v : Byte) (mbz : BitVec 24),
    (mbz ≠ 0 ∨ v.toNat < 1 ∨ 31 < v.toNat →
      exec (.reqStatus ⟨v, mbz⟩) s = .next (s.answered s.regs 0 .eBadArg)) ∧
    (mbz = 0 → 1 ≤ v.toNat ∧ v.toNat ≤ 31 → s.regs.link = false →
      exec (.reqStatus ⟨v, mbz⟩) s = .next (s.answered s.regs 0 .eLinkDown)) ∧
    (mbz = 0 → 1 ≤ v.toNat ∧ v.toNat ≤ 31 → s.regs.link = true → s.regs.awStatus.getLsbD v.toNat = true →
      exec (.reqStatus ⟨v, mbz⟩) s = .next (s.answered s.regs 0 .eGated)) ∧
    (mbz = 0 → 1 ≤ v.toNat ∧ v.toNat ≤ 31 → s.regs.link = true → s.regs.awStatus.getLsbD v.toNat = false →
      s.regs.req.getLsbD 4 = false →
      exec (.reqStatus ⟨v, mbz⟩) s = .next (s.answered
        { s.regs with req := s.regs.req ||| 0x10#8, param4 := v.setWidth 16 } 0 .ok)) ∧
    (mbz = 0 → 1 ≤ v.toNat ∧ v.toNat ≤ 31 → s.regs.link = true → s.regs.awStatus.getLsbD v.toNat = false →
      s.regs.req.getLsbD 4 = true →
      exec (.reqStatus ⟨v, mbz⟩) s = .next (s.answered
        { s.regs with req := s.regs.req ||| 0x10#8, param4 := v.setWidth 16 }
        (s.regs.param4.setWidth 32) .okCoalesced))

/-- R150, `REQ_REGACK`, with the common procedure of R143 for level 5. -/
def Obligations.ReqRegackLatchesLevelFive : Prop :=
  (∀ arg : Word, decode (0x25#8 ++ arg) = .ok (.reqRegack ⟨arg.extractLsb' 0 8, arg.extractLsb' 8 24⟩)) ∧
  ∀ (s : State) (v : Byte) (mbz : BitVec 24),
    (mbz ≠ 0 ∨ v.toNat < 1 ∨ 31 < v.toNat →
      exec (.reqRegack ⟨v, mbz⟩) s = .next (s.answered s.regs 0 .eBadArg)) ∧
    (mbz = 0 → 1 ≤ v.toNat ∧ v.toNat ≤ 31 → s.regs.link = false →
      exec (.reqRegack ⟨v, mbz⟩) s = .next (s.answered s.regs 0 .eLinkDown)) ∧
    (mbz = 0 → 1 ≤ v.toNat ∧ v.toNat ≤ 31 → s.regs.link = true → s.regs.req.getLsbD 5 = false →
      exec (.reqRegack ⟨v, mbz⟩) s = .next (s.answered
        { s.regs with req := s.regs.req ||| 0x20#8, param5 := v.setWidth 16 } 0 .ok)) ∧
    (mbz = 0 → 1 ≤ v.toNat ∧ v.toNat ≤ 31 → s.regs.link = true → s.regs.req.getLsbD 5 = true →
      exec (.reqRegack ⟨v, mbz⟩) s = .next (s.answered
        { s.regs with req := s.regs.req ||| 0x20#8, param5 := v.setWidth 16 }
        (s.regs.param5.setWidth 32) .okCoalesced))

/-- R151, `REQ_TIMESYNC`, with the common procedure of R143 for level 6; `PARAM[6]` is written 0. -/
def Obligations.ReqTimesyncLatchesLevelSix : Prop :=
  (∀ arg : Word, decode (0x26#8 ++ arg) = .ok (.reqTimesync ⟨arg⟩)) ∧
  ∀ (s : State) (mbz : BitVec 32),
    (mbz ≠ 0 → exec (.reqTimesync ⟨mbz⟩) s = .next (s.answered s.regs 0 .eBadArg)) ∧
    (mbz = 0 → s.regs.link = false →
      exec (.reqTimesync ⟨mbz⟩) s = .next (s.answered s.regs 0 .eLinkDown)) ∧
    (mbz = 0 → s.regs.link = true → s.regs.req.getLsbD 6 = false →
      exec (.reqTimesync ⟨mbz⟩) s = .next (s.answered
        { s.regs with req := s.regs.req ||| 0x40#8, param6 := 0 } 0 .ok)) ∧
    (mbz = 0 → s.regs.link = true → s.regs.req.getLsbD 6 = true →
      exec (.reqTimesync ⟨mbz⟩) s = .next (s.answered
        { s.regs with req := s.regs.req ||| 0x40#8, param6 := 0 } (s.regs.param6.setWidth 32) .okCoalesced))

/-- R152, `REQ_ANNOUNCE`, with the common procedure of R143 for level 7; `PARAM[7]` is written 0. -/
def Obligations.ReqAnnounceLatchesLevelSeven : Prop :=
  (∀ arg : Word, decode (0x27#8 ++ arg) = .ok (.reqAnnounce ⟨arg⟩)) ∧
  ∀ (s : State) (mbz : BitVec 32),
    (mbz ≠ 0 → exec (.reqAnnounce ⟨mbz⟩) s = .next (s.answered s.regs 0 .eBadArg)) ∧
    (mbz = 0 → s.regs.link = false →
      exec (.reqAnnounce ⟨mbz⟩) s = .next (s.answered s.regs 0 .eLinkDown)) ∧
    (mbz = 0 → s.regs.link = true → s.regs.req.getLsbD 7 = false →
      exec (.reqAnnounce ⟨mbz⟩) s = .next (s.answered
        { s.regs with req := s.regs.req ||| 0x80#8, param7 := 0 } 0 .ok)) ∧
    (mbz = 0 → s.regs.link = true → s.regs.req.getLsbD 7 = true →
      exec (.reqAnnounce ⟨mbz⟩) s = .next (s.answered
        { s.regs with req := s.regs.req ||| 0x80#8, param7 := 0 } (s.regs.param7.setWidth 32) .okCoalesced))

/-! ### Unit U2, the tick, the in-flight bits and the link (spec/41_arbiter.md) -/

/-- R153: the selected level is the least one whose flag is set, and there is none exactly when no level's flag is.
For a `REQ` with bit 0 set, which R26 and R34 (a) rule out, the rule gives no value: that the selection looks at the
levels alone, so that 0x01 selects none, is the model's choice (log entry 5, DESIGN CHOICE). -/
def Obligations.SelectionIsTheLeastSetLevel : Prop :=
  ∀ req : Byte,
    (sel req = none ↔ ∀ k : Level, req.getLsbD k.num = false) ∧
    (sel 0 = none) ∧
    ∀ k : Level, sel req = some k ↔
      req.getLsbD k.num = true ∧ ∀ j : Level, j.num < k.num → req.getLsbD j.num = false

/-- R154, `ARB_TICK`, clause by clause: the checks, nothing pending, a grant, a one-shot drop, a retry. It speaks of
every state: in those outside R34 two of its answers are the model's choice (log entry 5, DESIGN CHOICE), `OK_IDLE` at
`REQ` = 0x01, and a grant of level 3 or 4 that writes no in-flight bit because the low byte of its parameter is 32 or
more. -/
def Obligations.ArbTickServesTheSelectedLevel : Prop :=
  (∀ arg : Word, decode (0x28#8 ++ arg) = .ok (.arbTick ⟨arg.extractLsb' 0 1, arg.extractLsb' 1 31⟩)) ∧
  ∀ s : State,
    (∀ (ready : BitVec 1) (mbz : BitVec 31), mbz ≠ 0 →
      exec (.arbTick ⟨ready, mbz⟩) s = .next (s.answered s.regs 0 .eBadArg)) ∧
    (∀ ready : BitVec 1, s.regs.link = false →
      exec (.arbTick ⟨ready, 0⟩) s = .next (s.answered s.regs 0 .eLinkDown)) ∧
    (∀ ready : BitVec 1, s.regs.link = true → (∀ k : Level, s.regs.req.getLsbD k.num = false) →
      exec (.arbTick ⟨ready, 0⟩) s = .next (s.answered s.regs 0 .okIdle)) ∧
    ∀ (k : Level) (g : Word), s.regs.link = true → s.regs.req.getLsbD k.num = true →
      (∀ j : Level, j.num < k.num → s.regs.req.getLsbD j.num = false) →
      g = (BitVec.ofNat 32 k.num <<< 16) ||| (s.regs.param k).setWidth 32 →
      exec (.arbTick ⟨1, 0⟩) s = .next (s.answered
        { s.regs with
          req := s.regs.req &&& ~~~(1#8 <<< k.num)
          awCell := if k = .cellDetail then
              s.regs.awCell ||| (1#32 <<< (s.regs.param3.extractLsb' 0 8).toNat) else s.regs.awCell
          awStatus := if k = .status then
              s.regs.awStatus ||| (1#32 <<< (s.regs.param4.extractLsb' 0 8).toNat) else s.regs.awStatus }
        g .ok) ∧
      (s.regs.cfg.getLsbD k.num = true →
        exec (.arbTick ⟨0, 0⟩) s = .next (s.answered
          { s.regs with req := s.regs.req &&& ~~~(1#8 <<< k.num) } g .txDropped)) ∧
      (s.regs.cfg.getLsbD k.num = false →
        exec (.arbTick ⟨0, 0⟩) s = .next (s.answered s.regs g .eTxBusy))

/-- R156 and R157, `AWAIT_CLR_STATUS` and `AWAIT_CLR_CELL`, whatever the link. -/
def Obligations.AwaitClearReturnsTheOldBit : Prop :=
  (∀ arg : Word, decode (0x29#8 ++ arg) = .ok (.awaitClrStatus ⟨arg.extractLsb' 0 8, arg.extractLsb' 8 24⟩)) ∧
  (∀ arg : Word, decode (0x2A#8 ++ arg) = .ok (.awaitClrCell ⟨arg.extractLsb' 0 8, arg.extractLsb' 8 24⟩)) ∧
  ∀ (s : State) (v : Byte) (mbz : BitVec 24),
    (mbz ≠ 0 ∨ v.toNat < 1 ∨ 31 < v.toNat →
      exec (.awaitClrStatus ⟨v, mbz⟩) s = .next (s.answered s.regs 0 .eBadArg) ∧
      exec (.awaitClrCell ⟨v, mbz⟩) s = .next (s.answered s.regs 0 .eBadArg)) ∧
    (mbz = 0 → 1 ≤ v.toNat ∧ v.toNat ≤ 31 →
      exec (.awaitClrStatus ⟨v, mbz⟩) s = .next (s.answered
        { s.regs with awStatus := s.regs.awStatus &&& ~~~(1#32 <<< v.toNat) }
        (if s.regs.awStatus.getLsbD v.toNat then 1 else 0) .ok) ∧
      exec (.awaitClrCell ⟨v, mbz⟩) s = .next (s.answered
        { s.regs with awCell := s.regs.awCell &&& ~~~(1#32 <<< v.toNat) }
        (if s.regs.awCell.getLsbD v.toNat then 1 else 0) .ok))

/-- R158, `AWAIT_CLR_MODULE`. -/
def Obligations.AwaitClearModuleClearsBothBits : Prop :=
  (∀ arg : Word, decode (0x2B#8 ++ arg) = .ok (.awaitClrModule ⟨arg.extractLsb' 0 8, arg.extractLsb' 8 24⟩)) ∧
  ∀ (s : State) (v : Byte) (mbz : BitVec 24),
    (mbz ≠ 0 ∨ v.toNat < 1 ∨ 31 < v.toNat →
      exec (.awaitClrModule ⟨v, mbz⟩) s = .next (s.answered s.regs 0 .eBadArg)) ∧
    (mbz = 0 → 1 ≤ v.toNat ∧ v.toNat ≤ 31 →
      exec (.awaitClrModule ⟨v, mbz⟩) s = .next (s.answered
        { s.regs with
          awStatus := s.regs.awStatus &&& ~~~(1#32 <<< v.toNat)
          awCell := s.regs.awCell &&& ~~~(1#32 <<< v.toNat) }
        ((if s.regs.awStatus.getLsbD v.toNat then 1#32 else 0#32) |||
          ((if s.regs.awCell.getLsbD v.toNat then 1#32 else 0#32) <<< 1)) .ok))

/-- R160, `LINK_DOWN`; issued while the link is down, in a state of R34, it changes nothing and returns 0. -/
def Obligations.LinkDownCancelsEverything : Prop :=
  (∀ arg : Word, decode (0x2C#8 ++ arg) = .ok (.linkDown ⟨arg⟩)) ∧
  ∀ s : State,
    exec (.linkDown ⟨0⟩) s = .next (s.answered
      { s.regs with link := false, req := 0, awStatus := 0, awCell := 0 } (s.regs.req.setWidth 32) .ok) ∧
    (s.regs.Consistent → s.regs.link = false → exec (.linkDown ⟨0⟩) s = .next (s.answered s.regs 0 .ok)) ∧
    ∀ mbz : BitVec 32, mbz ≠ 0 → exec (.linkDown ⟨mbz⟩) s = .next (s.answered s.regs 0 .eBadArg)

/-- R161, `LINK_UP`: it acts only on the change from 0 to 1. -/
def Obligations.LinkUpActsOnTheChange : Prop :=
  (∀ arg : Word, decode (0x2D#8 ++ arg) = .ok (.linkUp ⟨arg⟩)) ∧
  ∀ s : State,
    (s.regs.link = true → exec (.linkUp ⟨0⟩) s = .next (s.answered s.regs 0 .ok)) ∧
    (s.regs.link = false → exec (.linkUp ⟨0⟩) s = .next (s.answered
      { s.regs with link := true, awStatus := 0, awCell := 0, req := 0x80#8, param7 := 0 } 1 .ok)) ∧
    ∀ mbz : BitVec 32, mbz ≠ 0 → exec (.linkUp ⟨mbz⟩) s = .next (s.answered s.regs 0 .eBadArg)

/-! ### Unit U3, the checksums (spec/42_checksum.md) -/

/-- R190 and R191: the two forms of the byte update, for every choice of the parameters; `q` is `CRC_POLY` with its 16
bits reversed. -/
def Obligations.CrcUpdateIsTheBitwiseLoop : Prop :=
  rev16 0x1021#16 = 0x8408#16 ∧
  ∀ (p : Params) (crc : Half) (b : Byte),
    (p.crcReflect = false → crcUpdate p crc b =
      (fun c : Half => if c.getLsbD 15 then (c <<< 1) ^^^ p.crcPoly else c <<< 1)^[8]
        (crc ^^^ (b.setWidth 16 <<< 8))) ∧
    (p.crcReflect = true → ∀ q : Half, (∀ i, i < 16 → q.getLsbD i = p.crcPoly.getLsbD (15 - i)) →
      crcUpdate p crc b =
        (fun c : Half => if c.getLsbD 0 then (c >>> 1) ^^^ q else c >>> 1)^[8] (crc ^^^ b.setWidth 16))

/-- R193 and R194, `CRC_INIT` and `CRC_LOAD`. -/
def Obligations.CrcInitAndLoadSetTheAccumulator : Prop :=
  (∀ arg : Word, decode (0x30#8 ++ arg) = .ok (.crcInit ⟨arg⟩)) ∧
  (∀ arg : Word, decode (0x31#8 ++ arg) = .ok (.crcLoad ⟨arg.extractLsb' 0 16, arg.extractLsb' 16 16⟩)) ∧
  ∀ s : State,
    exec (.crcInit ⟨0⟩) s = .next (s.answered { s.regs with crc := s.params.crcInit } 0 .ok) ∧
    (∀ mbz : BitVec 32, mbz ≠ 0 → exec (.crcInit ⟨mbz⟩) s = .next (s.answered s.regs 0 .eBadArg)) ∧
    ∀ v : Half,
      exec (.crcLoad ⟨v, 0⟩) s = .next (s.answered { s.regs with crc := v } 0 .ok) ∧
      ∀ mbz : BitVec 16, mbz ≠ 0 → exec (.crcLoad ⟨v, mbz⟩) s = .next (s.answered s.regs 0 .eBadArg)

/-- R195, `CRC_BYTE`, with its five corner values under the default parameters from 0xFFFF. -/
def Obligations.CrcByteFeedsOneByte : Prop :=
  (∀ arg : Word, decode (0x32#8 ++ arg) = .ok (.crcByte ⟨arg.extractLsb' 0 8, arg.extractLsb' 8 24⟩)) ∧
  (∀ (s : State) (v : Byte),
    exec (.crcByte ⟨v, 0⟩) s = .next (s.answered { s.regs with crc := crcUpdate s.params s.regs.crc v }
      ((crcUpdate s.params s.regs.crc v).setWidth 32) .ok) ∧
    ∀ mbz : BitVec 24, mbz ≠ 0 → exec (.crcByte ⟨v, mbz⟩) s = .next (s.answered s.regs 0 .eBadArg)) ∧
  crcUpdate defaultParams 0xFFFF#16 0x00#8 = 0xE1F0#16 ∧ crcUpdate defaultParams 0xFFFF#16 0x01#8 = 0xF1D1#16 ∧
  crcUpdate defaultParams 0xFFFF#16 0x41#8 = 0xB915#16 ∧ crcUpdate defaultParams 0xFFFF#16 0x80#8 = 0x7078#16 ∧
  crcUpdate defaultParams 0xFFFF#16 0xFF#8 = 0xFF00#16

/-- R196, `CRC_WORD`: four bytes, the low end of `arg` first, never a part of them. -/
def Obligations.CrcWordFeedsFourBytesInOrder : Prop :=
  (∀ arg : Word, decode (0x33#8 ++ arg) =
    .ok (.crcWord ⟨arg.extractLsb' 0 8, arg.extractLsb' 8 8, arg.extractLsb' 16 8, arg.extractLsb' 24 8⟩)) ∧
  ∀ (s : State) (b0 b1 b2 b3 : Byte) (c : Half),
    c = crcUpdate s.params (crcUpdate s.params (crcUpdate s.params (crcUpdate s.params s.regs.crc b0) b1) b2) b3 →
    exec (.crcWord ⟨b0, b1, b2, b3⟩) s = .next (s.answered { s.regs with crc := c } (c.setWidth 32) .ok)

/-- R197, `CRC_READ`. -/
def Obligations.CrcReadGivesRawAndFinal : Prop :=
  (∀ arg : Word, decode (0x34#8 ++ arg) = .ok (.crcRead ⟨arg⟩)) ∧
  ∀ s : State,
    exec (.crcRead ⟨0⟩) s = .next (s.answered s.regs
      (((s.regs.crc ^^^ s.params.crcXorOut).setWidth 32 <<< 16) ||| s.regs.crc.setWidth 32) .ok) ∧
    ∀ mbz : BitVec 32, mbz ≠ 0 → exec (.crcRead ⟨mbz⟩) s = .next (s.answered s.regs 0 .eBadArg)

/-- R198, `CRC_CHECK`. -/
def Obligations.CrcCheckComparesTheFinalValue : Prop :=
  (∀ arg : Word, decode (0x35#8 ++ arg) = .ok (.crcCheck ⟨arg.extractLsb' 0 16, arg.extractLsb' 16 16⟩)) ∧
  ∀ (s : State) (v mbz : Half),
    (mbz = 0 → s.regs.crc ^^^ s.params.crcXorOut = v →
      exec (.crcCheck ⟨v, mbz⟩) s = .next (s.answered s.regs 0 .ok)) ∧
    (mbz = 0 → s.regs.crc ^^^ s.params.crcXorOut ≠ v →
      exec (.crcCheck ⟨v, mbz⟩) s = .next (s.answered s.regs 0x20 .eBadCrc)) ∧
    (mbz ≠ 0 → exec (.crcCheck ⟨v, mbz⟩) s = .next (s.answered s.regs 0 .eBadArg))

/-- R201 and R202, `XOR_INIT` and `XOR_BYTE`. -/
def Obligations.XorInitAndByteFollowTheRule : Prop :=
  (∀ arg : Word, decode (0x38#8 ++ arg) = .ok (.xorInit ⟨arg⟩)) ∧
  (∀ arg : Word, decode (0x39#8 ++ arg) = .ok (.xorByte ⟨arg.extractLsb' 0 8, arg.extractLsb' 8 24⟩)) ∧
  ∀ s : State,
    exec (.xorInit ⟨0⟩) s = .next (s.answered { s.regs with xsum := 0 } 0 .ok) ∧
    (∀ mbz : BitVec 32, mbz ≠ 0 → exec (.xorInit ⟨mbz⟩) s = .next (s.answered s.regs 0 .eBadArg)) ∧
    ∀ v : Byte,
      exec (.xorByte ⟨v, 0⟩) s = .next (s.answered { s.regs with xsum := s.regs.xsum ^^^ v }
        ((s.regs.xsum ^^^ v).setWidth 32) .ok) ∧
      ∀ mbz : BitVec 24, mbz ≠ 0 → exec (.xorByte ⟨v, mbz⟩) s = .next (s.answered s.regs 0 .eBadArg)

/-- R203, `XOR_WORD`. -/
def Obligations.XorWordFeedsFourBytes : Prop :=
  (∀ arg : Word, decode (0x3A#8 ++ arg) =
    .ok (.xorWord ⟨arg.extractLsb' 0 8, arg.extractLsb' 8 8, arg.extractLsb' 16 8, arg.extractLsb' 24 8⟩)) ∧
  ∀ (s : State) (b0 b1 b2 b3 : Byte),
    exec (.xorWord ⟨b0, b1, b2, b3⟩) s = .next (s.answered
      { s.regs with xsum := s.regs.xsum ^^^ b0 ^^^ b1 ^^^ b2 ^^^ b3 }
      ((s.regs.xsum ^^^ b0 ^^^ b1 ^^^ b2 ^^^ b3).setWidth 32) .ok)

/-- R204 and R205, `XOR_READ` and `XOR_CHECK`. -/
def Obligations.XorReadAndCheckFollowTheRule : Prop :=
  (∀ arg : Word, decode (0x3B#8 ++ arg) = .ok (.xorRead ⟨arg⟩)) ∧
  (∀ arg : Word, decode (0x3C#8 ++ arg) = .ok (.xorCheck ⟨arg.extractLsb' 0 8, arg.extractLsb' 8 24⟩)) ∧
  ∀ s : State,
    exec (.xorRead ⟨0⟩) s = .next (s.answered s.regs (s.regs.xsum.setWidth 32) .ok) ∧
    (∀ mbz : BitVec 32, mbz ≠ 0 → exec (.xorRead ⟨mbz⟩) s = .next (s.answered s.regs 0 .eBadArg)) ∧
    exec (.xorCheck ⟨s.regs.xsum, 0⟩) s = .next (s.answered s.regs 0 .ok) ∧
    (∀ v : Byte, s.regs.xsum ≠ v → exec (.xorCheck ⟨v, 0⟩) s = .next (s.answered s.regs 1 .eBadChecksum)) ∧
    ∀ (v : Byte) (mbz : BitVec 24), mbz ≠ 0 →
      exec (.xorCheck ⟨v, mbz⟩) s = .next (s.answered s.regs 0 .eBadArg)

/-! ### Encoding (spec/30_encoding.md) -/

/-- R72, R74: decoding an encoded instruction gives it back, for every instruction and every value of every field, the
must-be-zero and the ignored bits among them. -/
def Obligations.DecodeOfEncodeIsTheInstruction : Prop :=
  ∀ i : Instr, decode (encode i) = .ok i

/-- R74: a word that decodes is the word of the instruction it decodes to, so no bit of it is dropped. -/
def Obligations.EncodeOfDecodeIsTheWord : Prop :=
  ∀ (cw : CmdWord) (i : Instr), decode cw = .ok i → encode i = cw

/-- R75: exactly the 221 operation codes it lists are illegal, and such a command answers `E_ILLEGAL_OP(0)` and writes no
register, whatever `arg` is; any 40-bit word gets a response. -/
def Obligations.IllegalOpIsAnsweredAndChangesNothing : Prop :=
  let illegal (op : Nat) : Prop :=
    (0x03 ≤ op ∧ op ≤ 0x0E) ∨ op = 0x13 ∨ (0x18 ≤ op ∧ op ≤ 0x20) ∨ op = 0x2E ∨ op = 0x2F ∨ op = 0x36 ∨ op = 0x37 ∨
      (0x3D ≤ op ∧ op ≤ 0xFF)
  (∀ (op : BitVec 8) (arg : Word), illegal op.toNat ↔ ∀ i : Instr, decode (op ++ arg) ≠ .ok i) ∧
  (∀ (s : State) (op : BitVec 8) (arg : Word) (rest : List CmdWord), illegal op.toNat →
    s.pending = (op ++ arg : BitVec (8 + 32)) :: rest →
    step s = .next (State.answered { s with pending := rest } s.regs 0 .eIllegalOp)) ∧
  ∀ (s : State) (cw : CmdWord) (rest : List CmdWord), s.pending = cw :: rest →
    ∃ (t : State) (resp : Response), step s = .next t ∧ t.responses = s.responses ++ [resp]

/-- Words of the spec's own listings (spec/95_test_vectors.md) decode to the commands they are listed as. -/
def Obligations.ListedWordsDecode : Prop :=
  decode 0x0200008100#40 = .ok (.csrWrite ⟨0, 0, 0x81, 0⟩) ∧
  decode 0x1000051001#40 = .ok (.encStd ⟨0x01, 0x510, 0⟩) ∧
  decode 0x1100009403#40 = .ok (.encSd ⟨3, 0, 5, 2, 0, 0⟩) ∧
  decode 0x1200204D12#40 = .ok (.encKey ⟨0x12, 5, 0x409, 0⟩) ∧
  decode 0x2100000105#40 = .ok (.reqState ⟨0x05, 1, 0⟩) ∧
  decode 0x2300000702#40 = .ok (.reqCell ⟨2, 7, 0⟩) ∧
  decode 0x2800000003#40 = .ok (.arbTick ⟨1, 1⟩) ∧
  decode 0x3334333231#40 = .ok (.crcWord ⟨0x31, 0x32, 0x33, 0x34⟩)

/-- R81: the expansion of each pseudo-command. -/
def Obligations.PseudoCommandsExpand : Prop :=
  (∀ base : Nat, assemble "ENC_BCAST" [base] = assemble "ENC_STD" [0x00, base]) ∧
  (∀ base : Nat, assemble "ENC_UNREG" [base] = assemble "ENC_STD" [0xFF, base]) ∧
  (∀ state : Nat, assemble "REQ_STATE_ALL" [state] = assemble "REQ_STATE" [0x00, state]) ∧
  (∀ value : Nat, assemble "CFG_SET" [value] = assemble "CSR_WRITE" [0, value]) ∧
  ∀ b0 b1 b2 b3 b4 b5 b6 b7 : Byte,
    let xs := [b0.toNat, b1.toNat, b2.toNat, b3.toNat, b4.toNat, b5.toNat, b6.toNat, b7.toNat]
    assemble "CRC_CHUNK" xs = some [encode (.crcWord ⟨b0, b1, b2, b3⟩), encode (.crcWord ⟨b4, b5, b6, b7⟩)] ∧
    assemble "XOR_CHUNK" xs = some [encode (.xorWord ⟨b0, b1, b2, b3⟩), encode (.xorWord ⟨b4, b5, b6, b7⟩)]

/-! ### The step, the responses and the frame of every command -/

/-- R56: when the next word at the command port decodes to `i`, the step is `exec i` of the machine that has taken the
word from the port. With no command presented the step changes nothing (log entry 1). -/
def Obligations.StepRunsTheDecodedCommand : Prop :=
  (∀ (s : State) (cw : CmdWord) (rest : List CmdWord) (i : Instr), s.pending = cw :: rest → decode cw = .ok i →
    step s = exec i { s with pending := rest }) ∧
  ∀ s : State, s.pending = [] → step s = .next s

/-- R10, R53, R56, R254: every command, any 40-bit word, is taken and answered exactly once; there is no fault and no
refusal, and the configuration never changes. -/
def Obligations.EveryCommandIsAnsweredOnce : Prop :=
  ∀ (s : State) (cw : CmdWord) (rest : List CmdWord), s.pending = cw :: rest →
    ∃ (r : Regs) (resp : Response),
      step s = .next { regs := r, params := s.params, pending := rest, responses := s.responses ++ [resp] }

/-- R253, R254: a refused command writes no register, and its result is 0 except for the three statuses that carry
one. -/
def Obligations.RefusedCommandChangesNoRegister : Prop :=
  ∀ (s t : State) (resp : Response), step s = .next t → t.responses = s.responses ++ [resp] →
    resp.st.isError = true →
      t.regs = s.regs ∧ (resp.res = 0 ∨ resp.st = .eTxBusy ∨
        (resp.st = .eBadCrc ∧ resp.res = 0x20) ∨ (resp.st = .eBadChecksum ∧ resp.res = 1))

/-- R252: a command returns only the statuses its row lists, and an `op` outside the map only `E_ILLEGAL_OP`. -/
def Obligations.EachCommandReturnsItsListedStatuses : Prop :=
  (∀ (i : Instr) (s t : State) (resp : Response), exec i s = .next t → t.responses = s.responses ++ [resp] →
    resp.st ∈ statusesOf i) ∧
  ∀ (s t : State) (cw : CmdWord) (rest : List CmdWord) (resp : Response), s.pending = cw :: rest →
    (∀ i : Instr, decode cw ≠ .ok i) → step s = .next t → t.responses = s.responses ++ [resp] →
    resp.st = .eIllegalOp

/-- R250: the thirteen codes, all different; bit 7 tells a refusal; the response word of R71 holds both parts. -/
def Obligations.StatusCodesAreTheListedOnes : Prop :=
  ([.ok, .okAliased, .okCoalesced, .okIdle, .txDropped, .eIllegalOp, .eBadArg, .eUnknownId, .eGated, .eLinkDown,
      .eTxBusy, .eBadCrc, .eBadChecksum].map Status.code =
    [0x00#8, 0x01#8, 0x02#8, 0x03#8, 0x04#8, 0x80#8, 0x81#8, 0x82#8, 0x83#8, 0x84#8, 0x85#8, 0x86#8, 0x87#8]) ∧
  (∀ a b : Status, a.code = b.code → a = b) ∧
  (∀ a : Status, a.isError = true ↔ 0x80 ≤ a.code.toNat) ∧
  ∀ r : Response, r.word.extractLsb' 32 8 = r.st.code ∧ r.word.extractLsb' 0 32 = r.res

/-- The "State written" line of every command's rule: a register that the line does not name is unchanged. With it
R208 (f): a command of U3 changes no register other than `CRC` or `XSUM`, and of the commands outside U3 only
`SOFT_RESET` changes those two. -/
def Obligations.CommandsWriteOnlyTheirListedRegisters : Prop :=
  (∀ (i : Instr) (s t : State) (n : RegName), exec i s = .next t → n ∉ stateWritten i → s.regs.Agree n t.regs) ∧
  (∀ (i : Instr) (s t : State), exec i s = .next t → unitOf i = .checksum → s.regs.SameButChecksums t.regs) ∧
  ∀ (i : Instr) (s t : State), exec i s = .next t → unitOf i ≠ .checksum → (∀ a : ArgZ, i ≠ .softReset a) →
    s.regs.SameChecksums t.regs

/-! ### Reset and the invariant of R34 -/

/-- R35: the reset value of every register, after power-on under any choice of the configuration parameters and after
`SOFT_RESET`. The clauses on `State.reset`, that it is the machine under the default parameters with `CRC` = 0xFFFF, are
the model's choice (log entry 3, PRESUMED). -/
def Obligations.ResetValuesAreTheListedOnes : Prop :=
  (∀ p : Params, (resetWith p).regs =
    { cfg := p.cfgReset, req := 0x00, param1 := 0, param2 := 0, param3 := 0, param4 := 0, param5 := 0, param6 := 0,
      param7 := 0, awStatus := 0, awCell := 0, link := false, crc := p.crcInit, xsum := 0x00 }) ∧
  (∀ s : State, exec (.softReset ⟨0⟩) s = .next (s.answered (resetWith s.params).regs 0 .ok)) ∧
  State.reset = resetWith defaultParams ∧ State.reset.regs.cfg = 0x00#8 ∧ State.reset.regs.crc = 0xFFFF#16

/-- R34 (a) to (d) hold after reset, whatever the configuration parameters. -/
def Obligations.ResetIsConsistent : Prop :=
  ∀ p : Params, (resetWith p).regs.Consistent

/-- R34 (a) to (d) are kept by every step, from every state that has them. -/
def Obligations.StepKeepsConsistent : Prop :=
  ∀ s t : State, s.regs.Consistent → step s = .next t → t.regs.Consistent

/-- R34 (e), the document's property P2: in every run from a consistent state, while no command clears `AW_STATUS[m]`, at
most one tick grants level 4 for module `m` with the transmitter ready. -/
def Obligations.AtMostOneStatusRequestOutstanding : Prop :=
  ∀ (s : State) (n : Nat) (m : Byte), s.regs.Consistent →
    (∀ e ∈ trace n s, e.clearsStatus m = false) →
    ((trace n s).filter (fun e => e.grantsStatus m)).length ≤ 1

/-- R34 whole: every state that the host can bring the machine to from reset satisfies (a) to (d), and (e) holds of every
run that goes on from it. -/
def Obligations.ReachableStatesSatisfyTheInvariant : Prop :=
  ∀ (p : Params) (s : State), Reachable p s →
    s.regs.Consistent ∧
    ∀ (n : Nat) (m : Byte), (∀ e ∈ trace n s, e.clearsStatus m = false) →
      ((trace n s).filter (fun e => e.grantsStatus m)).length ≤ 1

/-! ### Laws of the codec -/

/-- R116 (a) to (f): the round trips, through the commands themselves. -/
def Obligations.IdentifierRoundTrips : Prop :=
  let inSet (b : BaseId) : Prop := (0x500 ≤ b.toNat ∧ b.toNat ≤ 0x51F) ∨ (0x3F0 ≤ b.toNat ∧ b.toNat ≤ 0x3F3)
  let isKey (b : BaseId) : Prop := b = 0x407#11 ∨ b = 0x408#11 ∨ b = 0x409#11
  (∀ a : ArgES, a.mbz = 0 → inSet a.base → ∃ x : Word, ∀ s : State,
    exec (.encStd a) s = .next (s.answered s.regs x .ok) ∧
    exec (.decStd (.ofArg x)) s = .next (s.answered s.regs a.toArg .ok)) ∧
  (∀ a : ArgED, a.mbz = 0 → ∃ x : Word, ∀ s : State,
    exec (.encSd a) s = .next (s.answered s.regs x .ok) ∧
    exec (.decSd (.ofArg x)) s = .next (s.answered s.regs (a.toArg ||| 0x20000#32) .ok)) ∧
  (∀ a : ArgEK, a.mbz = 0 → isKey a.base → ∃ x : Word, ∀ s : State,
    exec (.encKey a) s = .next (s.answered s.regs x .ok) ∧
    exec (.decKey (.ofArg x)) s = .next (s.answered s.regs a.toArg .ok)) ∧
  (∀ x : Word, inSet (x.extractLsb' 18 11) → ∃ y : Word, ∀ s : State,
    exec (.decStd (.ofArg x)) s = .next (s.answered s.regs y .ok) ∧
    (x.extractLsb' 8 10 = 0 →
      exec (.encStd (.ofArg y)) s = .next (s.answered s.regs ((x.extractLsb' 0 29).setWidth 32) .ok)) ∧
    (x.extractLsb' 8 10 ≠ 0 →
      exec (.encStd (.ofArg y)) s = .next (s.answered s.regs 0 .eBadArg))) ∧
  (∀ x : Word, x.extractLsb' 18 11 = 0x3F1#11 → x.getLsbD 17 = true → ∃ y : Word, ∀ s : State,
    exec (.decSd (.ofArg x)) s = .next (s.answered s.regs y .ok) ∧
    exec (.encSd (.ofArg (y &&& 0x1FFFF#32))) s =
      .next (s.answered s.regs ((x.extractLsb' 0 29).setWidth 32) .ok)) ∧
  ∀ x : Word, isKey (x.extractLsb' 18 11) → ∃ y : Word, ∀ s : State,
    exec (.decKey (.ofArg x)) s = .next (s.answered s.regs y .ok) ∧
    exec (.encKey (.ofArg y)) s =
      .next (s.answered s.regs ((x.extractLsb' 0 29).setWidth 32 &&& 0x1FFC07FF#32) .ok)

/-- R117: no two different operands that an encoder accepts give the same identifier, and every identifier has 29
bits. -/
def Obligations.EncodersAreInjective : Prop :=
  (∀ (s : State) (a b : ArgES) (x : Word), exec (.encStd a) s = .next (s.answered s.regs x .ok) →
    exec (.encStd b) s = .next (s.answered s.regs x .ok) → a = b ∧ x.extractLsb' 29 3 = 0) ∧
  (∀ (s : State) (a b : ArgED) (x : Word), exec (.encSd a) s = .next (s.answered s.regs x .ok) →
    exec (.encSd b) s = .next (s.answered s.regs x .ok) → a = b ∧ x.extractLsb' 29 3 = 0) ∧
  ∀ (s : State) (a b : ArgEK) (x : Word), exec (.encKey a) s = .next (s.answered s.regs x .ok) →
    exec (.encKey b) s = .next (s.answered s.regs x .ok) → a = b ∧ x.extractLsb' 29 3 = 0

/-! ### Laws of the arbiter -/

/-- R162 (a): a tick with the transmitter ready and a flag set lowers the number of set flags by exactly one. -/
def Obligations.TickLowersThePendingCountByOne : Prop :=
  ∀ (s : State) (k : Level), s.regs.link = true → s.regs.req.getLsbD k.num = true →
    ∃ t : State, exec (.arbTick ⟨1, 0⟩) s = .next t ∧ pendingCount t.regs.req + 1 = pendingCount s.regs.req

/-- R162 (d): seven ticks with the transmitter ready and no request between them empty any `REQ`. -/
def Obligations.SevenTicksEmptyTheRequests : Prop :=
  ∀ (s : State) (rest : List CmdWord), s.regs.link = true →
    s.pending = List.replicate 7 0x2800000001#40 ++ rest →
    ∃ t : State, Host.Core.run Sys2Proof.core 7 s = .next t ∧ t.pending = rest ∧
      ∀ k : Level, t.regs.req.getLsbD k.num = false

/-- R141, R162 (b): a tick never serves a level while a higher one is set; the lower request, its flag and its operand,
is still there. -/
def Obligations.HigherLevelIsServedFirst : Prop :=
  ∀ (s t : State) (a : ArgT) (i j : Level), i.num < j.num → s.regs.req.getLsbD i.num = true →
    s.regs.req.getLsbD j.num = true → exec (.arbTick a) s = .next t →
    t.regs.req.getLsbD j.num = true ∧ t.regs.param j = s.regs.param j ∧
      t.responses.getLast? ≠ some ⟨grantWord s.regs j, .ok⟩ ∧
      t.responses.getLast? ≠ some ⟨grantWord s.regs j, .txDropped⟩

/-- R162 (c): in a consistent state a set flag is cleared only by a tick that serves its own level, by `LINK_DOWN`, or by
`SOFT_RESET`. -/
def Obligations.SetFlagIsClearedOnlyByItsOwnService : Prop :=
  ∀ (i : Instr) (s t : State) (k : Level), s.regs.Consistent → exec i s = .next t →
    s.regs.req.getLsbD k.num = true → t.regs.req.getLsbD k.num = false →
    (∃ ready : BitVec 1, i = .arbTick ⟨ready, 0⟩ ∧ (∀ j : Level, j.num < k.num → s.regs.req.getLsbD j.num = false) ∧
      (t.responses = s.responses ++ [⟨grantWord s.regs k, .ok⟩] ∨
        t.responses = s.responses ++ [⟨grantWord s.regs k, .txDropped⟩])) ∨
    i = .linkDown ⟨0⟩ ∨ i = .softReset ⟨0⟩

/-- R28, R29: an in-flight bit is set only by a tick that grants level 4, or level 3, for that module with the
transmitter ready. -/
def Obligations.InFlightBitIsSetOnlyByAGrant : Prop :=
  ∀ (i : Instr) (s t : State) (m : Nat), exec i s = .next t →
    (s.regs.awStatus.getLsbD m = false → t.regs.awStatus.getLsbD m = true →
      i = .arbTick ⟨1, 0⟩ ∧ s.regs.req.getLsbD 4 = true ∧ (lowByte s.regs.param4).toNat = m ∧
        t.responses = s.responses ++ [⟨grantWord s.regs .status, .ok⟩]) ∧
    (s.regs.awCell.getLsbD m = false → t.regs.awCell.getLsbD m = true →
      i = .arbTick ⟨1, 0⟩ ∧ s.regs.req.getLsbD 3 = true ∧ (lowByte s.regs.param3).toNat = m ∧
        t.responses = s.responses ++ [⟨grantWord s.regs .cellDetail, .ok⟩])

/-! ### Laws of the checksums -/

/-- R208 (a): for each byte the update is a bijection on the register, for any polynomial with bit 0 set and for both
forms. -/
def Obligations.CrcUpdateIsABijection : Prop :=
  ∀ (p : Params) (b : Byte), p.crcPoly.getLsbD 0 = true → Function.Bijective (fun crc : Half => crcUpdate p crc b)

/-- R208 (b): the CRC is affine, for every choice of the parameters and both forms. -/
def Obligations.CrcIsAffine : Prop :=
  ∀ (p : Params) (init : Half) (xs ys zs : List Byte), xs.length = ys.length → ys.length = zs.length →
    crcFeed p init (List.zipWith (· ^^^ ·) (List.zipWith (· ^^^ ·) xs ys) zs) =
      crcFeed p init xs ^^^ crcFeed p init ys ^^^ crcFeed p init zs

/-- R208 (c): a single-bit change in a fed sequence always changes the CRC, for any polynomial with bit 0 set. -/
def Obligations.SingleBitChangeChangesTheCrc : Prop :=
  ∀ (p : Params) (init : Half) (before after : List Byte) (b : Byte) (i : Nat), p.crcPoly.getLsbD 0 = true → i < 8 →
    crcFeed p init (before ++ b :: after) ≠ crcFeed p init (before ++ (b ^^^ (1#8 <<< i)) :: after)

/-- R208 (d), (e): the XOR-8 does not depend on the order of the bytes, and feeding a sequence followed by its own XOR-8
leaves 0. -/
def Obligations.XorSumIgnoresOrderAndCancels : Prop :=
  (∀ (x : Byte) (xs ys : List Byte), xs.Perm ys → xorFeed x xs = xorFeed x ys) ∧
  ∀ xs : List Byte, xorFeed 0 (xs ++ [xorFeed 0 xs]) = 0
end

