-- ==== Sys2Proof/Laws/Bits.lean ====
section
/-! SUPPORT. Bits, fields and formats: what `place`, `bitsOf`, `setBit` and `clearBit` do to one bit, and that each operand
format is written back exactly as it was read. -/

namespace Sys2Proof.Laws

open Sys2Proof.Machine

/-! ### Fields of `arg` -/

theorem getLsbD_bitsOf (arg : Word) (lo w i : Nat) :
    (bitsOf arg lo w).getLsbD i = (decide (i < w) && arg.getLsbD (lo + i)) := by
  simp [bitsOf]

theorem getLsbD_place {w : Nat} (x : BitVec w) (lo i : Nat) :
    (place x lo).getLsbD i = (decide (i < 32) && decide (lo ≤ i) && x.getLsbD (i - lo)) := by
  simp only [place, BitVec.getLsbD_shiftLeft, BitVec.getLsbD_setWidth]
  by_cases h : lo ≤ i
  · have h1 : ¬i < lo := by omega
    by_cases h2 : i < 32
    · have h3 : i - lo < 32 := by omega
      simp [h, h1, h2, h3]
    · simp [h2]
  · have h1 : i < lo := by omega
    simp [h, h1]

/-- Reading a field of an operand that is an OR of parts. -/
theorem bitsOf_or (x y : Word) (lo w : Nat) : bitsOf (x ||| y) lo w = bitsOf x lo w ||| bitsOf y lo w := by
  ext i hi
  simp [bitsOf]

/-- A field reads back as it was placed. -/
theorem bitsOf_place_self {w : Nat} (x : BitVec w) (lo : Nat) (h : lo + w ≤ 32) : bitsOf (place x lo) lo w = x := by
  apply BitVec.eq_of_getLsbD_eq
  intro i hi
  rw [getLsbD_bitsOf, getLsbD_place]
  have : lo + i < 32 := by omega
  simp [hi, this]

/-- A field reads 0 from a part that lies wholly above or below it. -/
theorem bitsOf_place_disjoint {v : Nat} (x : BitVec v) (lo at' w : Nat) (h : lo + v ≤ at' ∨ at' + w ≤ lo) :
    bitsOf (place x lo) at' w = 0#w := by
  apply BitVec.eq_of_getLsbD_eq
  intro i hi
  rw [getLsbD_bitsOf, getLsbD_place]
  rcases h with h | h
  · have : x.getLsbD (at' + i - lo) = false := BitVec.getLsbD_of_ge _ _ (by omega)
    simp [this]
  · have : ¬lo ≤ at' + i := by omega
    simp [this]

/-- A field put back where it was read keeps exactly its own bits of the operand. -/
theorem getLsbD_place_bitsOf (arg : Word) (lo w i : Nat) :
    (place (bitsOf arg lo w) lo).getLsbD i = (decide (lo ≤ i) && decide (i < lo + w) && arg.getLsbD i) := by
  rw [getLsbD_place, getLsbD_bitsOf]
  by_cases h : lo ≤ i
  · by_cases h' : i < 32
    · have e : lo + (i - lo) = i := by omega
      have d : (i - lo < w) = (i < lo + w) := by rw [eq_iff_iff]; omega
      simp [h, h', e, d]
    · have : arg.getLsbD i = false := BitVec.getLsbD_of_ge _ _ (by omega)
      simp [h', this]
  · simp [h]

/-! ### The thirteen formats -/

theorem argZ_ofArg_toArg (a : ArgZ) : ArgZ.ofArg a.toArg = a := by
  simp (disch := omega) [ArgZ.ofArg, ArgZ.toArg, bitsOf_place_self]

theorem argB_ofArg_toArg (a : ArgB) : ArgB.ofArg a.toArg = a := by
  simp (disch := omega) [ArgB.ofArg, ArgB.toArg, bitsOf_or, bitsOf_place_self, bitsOf_place_disjoint]

theorem argH_ofArg_toArg (a : ArgH) : ArgH.ofArg a.toArg = a := by
  simp (disch := omega) [ArgH.ofArg, ArgH.toArg, bitsOf_or, bitsOf_place_self, bitsOf_place_disjoint]

theorem argW_ofArg_toArg (a : ArgW) : ArgW.ofArg a.toArg = a := by
  simp (disch := omega) [ArgW.ofArg, ArgW.toArg, bitsOf_or, bitsOf_place_self, bitsOf_place_disjoint]

theorem argX_ofArg_toArg (a : ArgX) : ArgX.ofArg a.toArg = a := by
  simp (disch := omega) [ArgX.ofArg, ArgX.toArg, bitsOf_or, bitsOf_place_self, bitsOf_place_disjoint]

theorem argES_ofArg_toArg (a : ArgES) : ArgES.ofArg a.toArg = a := by
  simp (disch := omega) [ArgES.ofArg, ArgES.toArg, bitsOf_or, bitsOf_place_self, bitsOf_place_disjoint]

theorem argED_ofArg_toArg (a : ArgED) : ArgED.ofArg a.toArg = a := by
  simp (disch := omega) [ArgED.ofArg, ArgED.toArg, bitsOf_or, bitsOf_place_self, bitsOf_place_disjoint]

theorem argEK_ofArg_toArg (a : ArgEK) : ArgEK.ofArg a.toArg = a := by
  simp (disch := omega) [ArgEK.ofArg, ArgEK.toArg, bitsOf_or, bitsOf_place_self, bitsOf_place_disjoint]

theorem argRS_ofArg_toArg (a : ArgRS) : ArgRS.ofArg a.toArg = a := by
  simp (disch := omega) [ArgRS.ofArg, ArgRS.toArg, bitsOf_or, bitsOf_place_self, bitsOf_place_disjoint]

theorem argRC_ofArg_toArg (a : ArgRC) : ArgRC.ofArg a.toArg = a := by
  simp (disch := omega) [ArgRC.ofArg, ArgRC.toArg, bitsOf_or, bitsOf_place_self, bitsOf_place_disjoint]

theorem argT_ofArg_toArg (a : ArgT) : ArgT.ofArg a.toArg = a := by
  simp (disch := omega) [ArgT.ofArg, ArgT.toArg, bitsOf_or, bitsOf_place_self, bitsOf_place_disjoint]

theorem argCR_ofArg_toArg (a : ArgCR) : ArgCR.ofArg a.toArg = a := by
  simp (disch := omega) [ArgCR.ofArg, ArgCR.toArg, bitsOf_or, bitsOf_place_self, bitsOf_place_disjoint]

theorem argCW_ofArg_toArg (a : ArgCW) : ArgCW.ofArg a.toArg = a := by
  simp (disch := omega) [ArgCW.ofArg, ArgCW.toArg, bitsOf_or, bitsOf_place_self, bitsOf_place_disjoint]

/-! ### The 40-bit word -/

theorem opOf_packWord (op : BitVec 8) (arg : Word) : opOf (packWord op arg) = op := by
  apply BitVec.eq_of_getLsbD_eq
  intro i hi
  have h : 32 + i < 40 := by omega
  simp [opOf, packWord, hi, h]

theorem argOf_packWord (op : BitVec 8) (arg : Word) : argOf (packWord op arg) = arg := by
  apply BitVec.eq_of_getLsbD_eq
  intro i hi
  have h : i < 40 := by omega
  simp [argOf, packWord, hi, h]

/-- A word is its operation code and its operand. -/
theorem packWord_opOf_argOf (cw : CmdWord) : packWord (opOf cw) (argOf cw) = cw := by
  apply BitVec.eq_of_getLsbD_eq
  intro i hi
  by_cases h : i < 32
  · simp [opOf, argOf, packWord, hi, h]
  · have e : 32 + (i - 32) = i := by omega
    have d : i - 32 < 8 := by omega
    have d' : i - 32 < 40 := by omega
    simp [opOf, argOf, packWord, hi, h, e, d]

/-- The packing of R70, in the other spelling: the operation code above the operand. -/
theorem packWord_eq_append (op : BitVec 8) (arg : Word) : packWord op arg = (op ++ arg : BitVec (8 + 32)) := by
  apply BitVec.eq_of_getLsbD_eq
  intro i hi
  rw [BitVec.getLsbD_append]
  by_cases h : i < 32
  · simp [packWord, hi, h]
  · have h' : arg.getLsbD i = false := BitVec.getLsbD_of_ge _ _ (by omega)
    simp [packWord, hi, h, h']

/-- No two rows of the opcode map share an operation code (R74). -/
theorem opcodeMap_ops_distinct : opcodeMap.Pairwise (fun a b => a.op ≠ b.op) := by decide

/-- The decoder finds the row of an operation code in the map. -/
theorem decode_packWord_of_find {op : BitVec 8} {row : OpRow}
    (h : opcodeMap.find? (fun r => r.op == op) = some row) (arg : Word) :
    decode (packWord op arg) = .ok (row.make arg) := by
  simp [decode, opOf_packWord, argOf_packWord, h]

/-! ### One bit of a register -/

@[simp] theorem getLsbD_setBit {n : Nat} (w : BitVec n) (i j : Nat) :
    (setBit w i).getLsbD j = (w.getLsbD j || (decide (j = i) && decide (j < n))) := by
  simp only [setBit, BitVec.getLsbD_or, BitVec.getLsbD_shiftLeft, BitVec.getLsbD_one]
  by_cases h : j = i <;> by_cases h' : j < n <;> simp_all <;> omega

@[simp] theorem getLsbD_clearBit {n : Nat} (w : BitVec n) (i j : Nat) :
    (clearBit w i).getLsbD j = (w.getLsbD j && !decide (j = i)) := by
  simp only [clearBit, BitVec.getLsbD_and, BitVec.getLsbD_not, BitVec.getLsbD_shiftLeft, BitVec.getLsbD_one]
  by_cases h : j < n
  · by_cases h' : j = i <;> simp_all <;> omega
  · have : w.getLsbD j = false := BitVec.getLsbD_of_ge _ _ (by omega)
    simp [this]

end Sys2Proof.Laws
end

