-- ==== Sys2Proof/Laws/State.lean ====
section
/-! SUPPORT. One lemma per field per update of the state: no later proof unfolds a record update. -/

namespace Sys2Proof.Laws

open Sys2Proof.Machine

/-! ### The machine after a response -/

@[simp] theorem answered_regs (s : State) (r : Regs) (res : Word) (st : Status) :
    (s.answered r res st).regs = r := rfl

@[simp] theorem answered_params (s : State) (r : Regs) (res : Word) (st : Status) :
    (s.answered r res st).params = s.params := rfl

@[simp] theorem answered_pending (s : State) (r : Regs) (res : Word) (st : Status) :
    (s.answered r res st).pending = s.pending := rfl

@[simp] theorem answered_responses (s : State) (r : Regs) (res : Word) (st : Status) :
    (s.answered r res st).responses = s.responses ++ [⟨res, st⟩] := rfl

/-! ### `Regs.setReq` -/

@[simp] theorem setReq_cfg (r : Regs) (k : Level) : (r.setReq k).cfg = r.cfg := rfl

@[simp] theorem setReq_req (r : Regs) (k : Level) : (r.setReq k).req = setBit r.req k.num := rfl

@[simp] theorem setReq_param1 (r : Regs) (k : Level) : (r.setReq k).param1 = r.param1 := rfl

@[simp] theorem setReq_param2 (r : Regs) (k : Level) : (r.setReq k).param2 = r.param2 := rfl

@[simp] theorem setReq_param3 (r : Regs) (k : Level) : (r.setReq k).param3 = r.param3 := rfl

@[simp] theorem setReq_param4 (r : Regs) (k : Level) : (r.setReq k).param4 = r.param4 := rfl

@[simp] theorem setReq_param5 (r : Regs) (k : Level) : (r.setReq k).param5 = r.param5 := rfl

@[simp] theorem setReq_param6 (r : Regs) (k : Level) : (r.setReq k).param6 = r.param6 := rfl

@[simp] theorem setReq_param7 (r : Regs) (k : Level) : (r.setReq k).param7 = r.param7 := rfl

@[simp] theorem setReq_awStatus (r : Regs) (k : Level) : (r.setReq k).awStatus = r.awStatus := rfl

@[simp] theorem setReq_awCell (r : Regs) (k : Level) : (r.setReq k).awCell = r.awCell := rfl

@[simp] theorem setReq_link (r : Regs) (k : Level) : (r.setReq k).link = r.link := rfl

@[simp] theorem setReq_crc (r : Regs) (k : Level) : (r.setReq k).crc = r.crc := rfl

@[simp] theorem setReq_xsum (r : Regs) (k : Level) : (r.setReq k).xsum = r.xsum := rfl

@[simp] theorem setReq_param (r : Regs) (k : Level) (j : Level) : (r.setReq k).param j = r.param j := by
  cases j <;> rfl

/-! ### `Regs.clearReq` -/

@[simp] theorem clearReq_cfg (r : Regs) (k : Level) : (r.clearReq k).cfg = r.cfg := rfl

@[simp] theorem clearReq_req (r : Regs) (k : Level) : (r.clearReq k).req = clearBit r.req k.num := rfl

@[simp] theorem clearReq_param1 (r : Regs) (k : Level) : (r.clearReq k).param1 = r.param1 := rfl

@[simp] theorem clearReq_param2 (r : Regs) (k : Level) : (r.clearReq k).param2 = r.param2 := rfl

@[simp] theorem clearReq_param3 (r : Regs) (k : Level) : (r.clearReq k).param3 = r.param3 := rfl

@[simp] theorem clearReq_param4 (r : Regs) (k : Level) : (r.clearReq k).param4 = r.param4 := rfl

@[simp] theorem clearReq_param5 (r : Regs) (k : Level) : (r.clearReq k).param5 = r.param5 := rfl

@[simp] theorem clearReq_param6 (r : Regs) (k : Level) : (r.clearReq k).param6 = r.param6 := rfl

@[simp] theorem clearReq_param7 (r : Regs) (k : Level) : (r.clearReq k).param7 = r.param7 := rfl

@[simp] theorem clearReq_awStatus (r : Regs) (k : Level) : (r.clearReq k).awStatus = r.awStatus := rfl

@[simp] theorem clearReq_awCell (r : Regs) (k : Level) : (r.clearReq k).awCell = r.awCell := rfl

@[simp] theorem clearReq_link (r : Regs) (k : Level) : (r.clearReq k).link = r.link := rfl

@[simp] theorem clearReq_crc (r : Regs) (k : Level) : (r.clearReq k).crc = r.crc := rfl

@[simp] theorem clearReq_xsum (r : Regs) (k : Level) : (r.clearReq k).xsum = r.xsum := rfl

@[simp] theorem clearReq_param (r : Regs) (k : Level) (j : Level) : (r.clearReq k).param j = r.param j := by
  cases j <;> rfl

/-! ### `Regs.setAwaitStatus` -/

@[simp] theorem setAwaitStatus_cfg (r : Regs) (m : Byte) : (r.setAwaitStatus m).cfg = r.cfg := rfl

@[simp] theorem setAwaitStatus_req (r : Regs) (m : Byte) : (r.setAwaitStatus m).req = r.req := rfl

@[simp] theorem setAwaitStatus_param1 (r : Regs) (m : Byte) : (r.setAwaitStatus m).param1 = r.param1 := rfl

@[simp] theorem setAwaitStatus_param2 (r : Regs) (m : Byte) : (r.setAwaitStatus m).param2 = r.param2 := rfl

@[simp] theorem setAwaitStatus_param3 (r : Regs) (m : Byte) : (r.setAwaitStatus m).param3 = r.param3 := rfl

@[simp] theorem setAwaitStatus_param4 (r : Regs) (m : Byte) : (r.setAwaitStatus m).param4 = r.param4 := rfl

@[simp] theorem setAwaitStatus_param5 (r : Regs) (m : Byte) : (r.setAwaitStatus m).param5 = r.param5 := rfl

@[simp] theorem setAwaitStatus_param6 (r : Regs) (m : Byte) : (r.setAwaitStatus m).param6 = r.param6 := rfl

@[simp] theorem setAwaitStatus_param7 (r : Regs) (m : Byte) : (r.setAwaitStatus m).param7 = r.param7 := rfl

@[simp] theorem setAwaitStatus_awStatus (r : Regs) (m : Byte) : (r.setAwaitStatus m).awStatus = setBit r.awStatus m.toNat := rfl

@[simp] theorem setAwaitStatus_awCell (r : Regs) (m : Byte) : (r.setAwaitStatus m).awCell = r.awCell := rfl

@[simp] theorem setAwaitStatus_link (r : Regs) (m : Byte) : (r.setAwaitStatus m).link = r.link := rfl

@[simp] theorem setAwaitStatus_crc (r : Regs) (m : Byte) : (r.setAwaitStatus m).crc = r.crc := rfl

@[simp] theorem setAwaitStatus_xsum (r : Regs) (m : Byte) : (r.setAwaitStatus m).xsum = r.xsum := rfl

@[simp] theorem setAwaitStatus_param (r : Regs) (m : Byte) (j : Level) : (r.setAwaitStatus m).param j = r.param j := by
  cases j <;> rfl

/-! ### `Regs.setAwaitCell` -/

@[simp] theorem setAwaitCell_cfg (r : Regs) (m : Byte) : (r.setAwaitCell m).cfg = r.cfg := rfl

@[simp] theorem setAwaitCell_req (r : Regs) (m : Byte) : (r.setAwaitCell m).req = r.req := rfl

@[simp] theorem setAwaitCell_param1 (r : Regs) (m : Byte) : (r.setAwaitCell m).param1 = r.param1 := rfl

@[simp] theorem setAwaitCell_param2 (r : Regs) (m : Byte) : (r.setAwaitCell m).param2 = r.param2 := rfl

@[simp] theorem setAwaitCell_param3 (r : Regs) (m : Byte) : (r.setAwaitCell m).param3 = r.param3 := rfl

@[simp] theorem setAwaitCell_param4 (r : Regs) (m : Byte) : (r.setAwaitCell m).param4 = r.param4 := rfl

@[simp] theorem setAwaitCell_param5 (r : Regs) (m : Byte) : (r.setAwaitCell m).param5 = r.param5 := rfl

@[simp] theorem setAwaitCell_param6 (r : Regs) (m : Byte) : (r.setAwaitCell m).param6 = r.param6 := rfl

@[simp] theorem setAwaitCell_param7 (r : Regs) (m : Byte) : (r.setAwaitCell m).param7 = r.param7 := rfl

@[simp] theorem setAwaitCell_awStatus (r : Regs) (m : Byte) : (r.setAwaitCell m).awStatus = r.awStatus := rfl

@[simp] theorem setAwaitCell_awCell (r : Regs) (m : Byte) : (r.setAwaitCell m).awCell = setBit r.awCell m.toNat := rfl

@[simp] theorem setAwaitCell_link (r : Regs) (m : Byte) : (r.setAwaitCell m).link = r.link := rfl

@[simp] theorem setAwaitCell_crc (r : Regs) (m : Byte) : (r.setAwaitCell m).crc = r.crc := rfl

@[simp] theorem setAwaitCell_xsum (r : Regs) (m : Byte) : (r.setAwaitCell m).xsum = r.xsum := rfl

@[simp] theorem setAwaitCell_param (r : Regs) (m : Byte) (j : Level) : (r.setAwaitCell m).param j = r.param j := by
  cases j <;> rfl

/-! ### `Regs.clearAwaitStatus` -/

@[simp] theorem clearAwaitStatus_cfg (r : Regs) (m : Byte) : (r.clearAwaitStatus m).cfg = r.cfg := rfl

@[simp] theorem clearAwaitStatus_req (r : Regs) (m : Byte) : (r.clearAwaitStatus m).req = r.req := rfl

@[simp] theorem clearAwaitStatus_param1 (r : Regs) (m : Byte) : (r.clearAwaitStatus m).param1 = r.param1 := rfl

@[simp] theorem clearAwaitStatus_param2 (r : Regs) (m : Byte) : (r.clearAwaitStatus m).param2 = r.param2 := rfl

@[simp] theorem clearAwaitStatus_param3 (r : Regs) (m : Byte) : (r.clearAwaitStatus m).param3 = r.param3 := rfl

@[simp] theorem clearAwaitStatus_param4 (r : Regs) (m : Byte) : (r.clearAwaitStatus m).param4 = r.param4 := rfl

@[simp] theorem clearAwaitStatus_param5 (r : Regs) (m : Byte) : (r.clearAwaitStatus m).param5 = r.param5 := rfl

@[simp] theorem clearAwaitStatus_param6 (r : Regs) (m : Byte) : (r.clearAwaitStatus m).param6 = r.param6 := rfl

@[simp] theorem clearAwaitStatus_param7 (r : Regs) (m : Byte) : (r.clearAwaitStatus m).param7 = r.param7 := rfl

@[simp] theorem clearAwaitStatus_awStatus (r : Regs) (m : Byte) : (r.clearAwaitStatus m).awStatus = clearBit r.awStatus m.toNat := rfl

@[simp] theorem clearAwaitStatus_awCell (r : Regs) (m : Byte) : (r.clearAwaitStatus m).awCell = r.awCell := rfl

@[simp] theorem clearAwaitStatus_link (r : Regs) (m : Byte) : (r.clearAwaitStatus m).link = r.link := rfl

@[simp] theorem clearAwaitStatus_crc (r : Regs) (m : Byte) : (r.clearAwaitStatus m).crc = r.crc := rfl

@[simp] theorem clearAwaitStatus_xsum (r : Regs) (m : Byte) : (r.clearAwaitStatus m).xsum = r.xsum := rfl

@[simp] theorem clearAwaitStatus_param (r : Regs) (m : Byte) (j : Level) : (r.clearAwaitStatus m).param j = r.param j := by
  cases j <;> rfl

/-! ### `Regs.clearAwaitCell` -/

@[simp] theorem clearAwaitCell_cfg (r : Regs) (m : Byte) : (r.clearAwaitCell m).cfg = r.cfg := rfl

@[simp] theorem clearAwaitCell_req (r : Regs) (m : Byte) : (r.clearAwaitCell m).req = r.req := rfl

@[simp] theorem clearAwaitCell_param1 (r : Regs) (m : Byte) : (r.clearAwaitCell m).param1 = r.param1 := rfl

@[simp] theorem clearAwaitCell_param2 (r : Regs) (m : Byte) : (r.clearAwaitCell m).param2 = r.param2 := rfl

@[simp] theorem clearAwaitCell_param3 (r : Regs) (m : Byte) : (r.clearAwaitCell m).param3 = r.param3 := rfl

@[simp] theorem clearAwaitCell_param4 (r : Regs) (m : Byte) : (r.clearAwaitCell m).param4 = r.param4 := rfl

@[simp] theorem clearAwaitCell_param5 (r : Regs) (m : Byte) : (r.clearAwaitCell m).param5 = r.param5 := rfl

@[simp] theorem clearAwaitCell_param6 (r : Regs) (m : Byte) : (r.clearAwaitCell m).param6 = r.param6 := rfl

@[simp] theorem clearAwaitCell_param7 (r : Regs) (m : Byte) : (r.clearAwaitCell m).param7 = r.param7 := rfl

@[simp] theorem clearAwaitCell_awStatus (r : Regs) (m : Byte) : (r.clearAwaitCell m).awStatus = r.awStatus := rfl

@[simp] theorem clearAwaitCell_awCell (r : Regs) (m : Byte) : (r.clearAwaitCell m).awCell = clearBit r.awCell m.toNat := rfl

@[simp] theorem clearAwaitCell_link (r : Regs) (m : Byte) : (r.clearAwaitCell m).link = r.link := rfl

@[simp] theorem clearAwaitCell_crc (r : Regs) (m : Byte) : (r.clearAwaitCell m).crc = r.crc := rfl

@[simp] theorem clearAwaitCell_xsum (r : Regs) (m : Byte) : (r.clearAwaitCell m).xsum = r.xsum := rfl

@[simp] theorem clearAwaitCell_param (r : Regs) (m : Byte) (j : Level) : (r.clearAwaitCell m).param j = r.param j := by
  cases j <;> rfl

/-! ### `Regs.setParam` -/

@[simp] theorem setParam_cfg (r : Regs) (k : Level) (v : Half) : (r.setParam k v).cfg = r.cfg := by
  cases k <;> rfl

@[simp] theorem setParam_req (r : Regs) (k : Level) (v : Half) : (r.setParam k v).req = r.req := by
  cases k <;> rfl

@[simp] theorem setParam_awStatus (r : Regs) (k : Level) (v : Half) : (r.setParam k v).awStatus = r.awStatus := by
  cases k <;> rfl

@[simp] theorem setParam_awCell (r : Regs) (k : Level) (v : Half) : (r.setParam k v).awCell = r.awCell := by
  cases k <;> rfl

@[simp] theorem setParam_link (r : Regs) (k : Level) (v : Half) : (r.setParam k v).link = r.link := by
  cases k <;> rfl

@[simp] theorem setParam_crc (r : Regs) (k : Level) (v : Half) : (r.setParam k v).crc = r.crc := by
  cases k <;> rfl

@[simp] theorem setParam_xsum (r : Regs) (k : Level) (v : Half) : (r.setParam k v).xsum = r.xsum := by
  cases k <;> rfl

@[simp] theorem setParam_param_self (r : Regs) (k : Level) (v : Half) : (r.setParam k v).param k = v := by
  cases k <;> rfl

theorem setParam_param_ne (r : Regs) (j k : Level) (v : Half) (h : j ≠ k) : (r.setParam k v).param j = r.param j := by
  cases j <;> cases k <;> first | rfl | exact absurd rfl h

/-! ### `grantRegs` -/

@[simp] theorem grantRegs_cfg (r : Regs) (k : Level) : (grantRegs r k).cfg = r.cfg := by
  cases k <;> rfl

@[simp] theorem grantRegs_link (r : Regs) (k : Level) : (grantRegs r k).link = r.link := by
  cases k <;> rfl

@[simp] theorem grantRegs_crc (r : Regs) (k : Level) : (grantRegs r k).crc = r.crc := by
  cases k <;> rfl

@[simp] theorem grantRegs_xsum (r : Regs) (k : Level) : (grantRegs r k).xsum = r.xsum := by
  cases k <;> rfl

@[simp] theorem grantRegs_req (r : Regs) (k : Level) : (grantRegs r k).req = clearBit r.req k.num := by
  cases k <;> rfl

@[simp] theorem grantRegs_param (r : Regs) (j k : Level) : (grantRegs r k).param j = r.param j := by
  cases k <;> cases j <;> rfl

/-- A grant marks a module as awaiting a status reply only at level 4. -/
theorem grantRegs_awStatus (r : Regs) (k : Level) :
    (grantRegs r k).awStatus = if k = .status then setBit r.awStatus (lowByte r.param4).toNat else r.awStatus := by
  cases k <;> rfl

/-- A grant marks a module as awaiting a cell-detail reply only at level 3. -/
theorem grantRegs_awCell (r : Regs) (k : Level) :
    (grantRegs r k).awCell = if k = .cellDetail then setBit r.awCell (lowByte r.param3).toNat else r.awCell := by
  cases k <;> rfl

/-! ### Reset -/

@[simp] theorem reset_cfg (p : Params) : (Regs.reset p).cfg = p.cfgReset := rfl

@[simp] theorem reset_req (p : Params) : (Regs.reset p).req = 0 := rfl

@[simp] theorem reset_param1 (p : Params) : (Regs.reset p).param1 = 0 := rfl

@[simp] theorem reset_param2 (p : Params) : (Regs.reset p).param2 = 0 := rfl

@[simp] theorem reset_param3 (p : Params) : (Regs.reset p).param3 = 0 := rfl

@[simp] theorem reset_param4 (p : Params) : (Regs.reset p).param4 = 0 := rfl

@[simp] theorem reset_param5 (p : Params) : (Regs.reset p).param5 = 0 := rfl

@[simp] theorem reset_param6 (p : Params) : (Regs.reset p).param6 = 0 := rfl

@[simp] theorem reset_param7 (p : Params) : (Regs.reset p).param7 = 0 := rfl

@[simp] theorem reset_awStatus (p : Params) : (Regs.reset p).awStatus = 0 := rfl

@[simp] theorem reset_awCell (p : Params) : (Regs.reset p).awCell = 0 := rfl

@[simp] theorem reset_link (p : Params) : (Regs.reset p).link = false := rfl

@[simp] theorem reset_crc (p : Params) : (Regs.reset p).crc = p.crcInit := rfl

@[simp] theorem reset_xsum (p : Params) : (Regs.reset p).xsum = 0 := rfl

@[simp] theorem reset_param (p : Params) (k : Level) : (Regs.reset p).param k = 0 := by
  cases k <;> rfl

end Sys2Proof.Laws
end

