-- ==== Sys2Proof/Laws/Ops.lean ====
section
/-! SUPPORT. For each shared operation, one lemma that says everything it can do. Later proofs cite these and do not
unfold the operation. -/

namespace Sys2Proof.Laws

open Sys2Proof.Machine

/-! ### The two ends of a command -/

theorem respond_eq (s : State) (r : Regs) (res : Word) (st : Status) :
    respond s r res st = .next (s.answered r res st) := rfl

theorem refuse_eq (s : State) (st : Status) (info : Word) :
    refuse s st info = .next (s.answered s.regs info st) := rfl

theorem respond_next {s t : State} {r : Regs} {res : Word} {st : Status} (h : respond s r res st = .next t) :
    t = s.answered r res st := by
  cases h
  rfl

theorem refuse_next {s t : State} {st : Status} {info : Word} (h : refuse s st info = .next t) :
    t = s.answered s.regs info st := by
  cases h
  rfl

/-! ### The command port -/

theorem takeCommand_nil {s : State} (h : s.pending = []) : takeCommand s = none := by
  simp [takeCommand, h]

theorem takeCommand_cons {s : State} {cw : CmdWord} {rest : List CmdWord} (h : s.pending = cw :: rest) :
    takeCommand s = some (cw, { s with pending := rest }) := by
  simp [takeCommand, h]

@[simp] theorem present_regs (cw : CmdWord) (s : State) : (present cw s).regs = s.regs := rfl

@[simp] theorem present_params (cw : CmdWord) (s : State) : (present cw s).params = s.params := rfl

/-! ### Operand checks -/

theorem mbzSet_eq_false_iff {w : Nat} (bits : BitVec w) : mbzSet bits = false ↔ bits = 0#w := by
  simp [mbzSet]

theorem mbzSet_eq_true_iff {w : Nat} (bits : BitVec w) : mbzSet bits = true ↔ bits ≠ 0#w := by
  simp [mbzSet]

theorem notModule_eq_false_iff (v : Byte) : notModule v = false ↔ 1 ≤ v.toNat ∧ v.toNat ≤ 31 := by
  simp only [notModule, nModules, Bool.or_eq_false_iff, decide_eq_false_iff_not]
  omega

theorem isKeyBase_eq_true_iff (base : BaseId) :
    isKeyBase base = true ↔ base = 0x407#11 ∨ base = 0x408#11 ∨ base = 0x409#11 := by
  simp [isKeyBase, keyBases]

/-! ### The register index map -/

/-- Exactly the indices 14 and 15 are reserved. -/
theorem csrValue_eq_none_iff (r : Regs) (index : BitVec 4) : csrValue r index = none ↔ 14 ≤ index.toNat := by
  unfold csrValue
  have := index.isLt
  split <;> simp_all
  omega

/-! ### The common procedure of the requests -/

/-- What a request can do: three refusals that write nothing, and the latch, coalescing or fresh. -/
theorem request_next {k : Level} {bad gated : Bool} {v : Half} {s t : State} (h : request k bad gated v s = .next t) :
    (bad = true ∧ t = s.answered s.regs 0 .eBadArg) ∨
    (bad = false ∧ s.regs.link = false ∧ t = s.answered s.regs 0 .eLinkDown) ∨
    (bad = false ∧ s.regs.link = true ∧ gated = true ∧ t = s.answered s.regs 0 .eGated) ∨
    (bad = false ∧ s.regs.link = true ∧ gated = false ∧ s.regs.requested k = true ∧
      t = s.answered ((s.regs.setReq k).setParam k v) ((s.regs.param k).setWidth 32) .okCoalesced) ∨
    (bad = false ∧ s.regs.link = true ∧ gated = false ∧ s.regs.requested k = false ∧
      t = s.answered ((s.regs.setReq k).setParam k v) 0 .ok) := by
  unfold request at h
  split at h
  · exact .inl ⟨‹_›, refuse_next h⟩
  split at h
  · exact .inr (.inl ⟨by simpa using ‹¬bad = true›, by simpa using ‹(!s.regs.link) = true›, refuse_next h⟩)
  split at h
  · exact .inr (.inr (.inl ⟨by simpa using ‹¬bad = true›, by simpa using ‹¬(!s.regs.link) = true›, ‹_›, refuse_next h⟩))
  split at h
  · exact .inr (.inr (.inr (.inl ⟨by simpa using ‹¬bad = true›, by simpa using ‹¬(!s.regs.link) = true›,
      by simpa using ‹¬gated = true›, ‹_›, respond_next h⟩)))
  · exact .inr (.inr (.inr (.inr ⟨by simpa using ‹¬bad = true›, by simpa using ‹¬(!s.regs.link) = true›,
      by simpa using ‹¬gated = true›, by simpa using ‹¬s.regs.requested k = true›, respond_next h⟩)))

/-! ### The selected level -/

/-- The selected level's flag is set. -/
theorem sel_requested {r : Regs} {k : Level} (h : sel r.req = some k) : r.requested k = true := by
  unfold sel at h
  repeat' split at h
  all_goals first | (cases h; assumption) | cases h

/-- The level's number is 1 to 7. -/
theorem level_num_bounds (k : Level) : 1 ≤ k.num ∧ k.num ≤ 7 := by
  cases k <;> decide

theorem level_num_injective {j k : Level} (h : j.num = k.num) : j = k := by
  cases j <;> cases k <;> first | rfl | exact absurd h (by decide)

/-! ### The checksums -/

theorem crcFeed_nil (p : Params) (crc : Half) : crcFeed p crc [] = crc := rfl

theorem crcFeed_cons (p : Params) (crc : Half) (b : Byte) (bs : List Byte) :
    crcFeed p crc (b :: bs) = crcFeed p (crcUpdate p crc b) bs := rfl

theorem crcFeed_append (p : Params) (crc : Half) (xs ys : List Byte) :
    crcFeed p crc (xs ++ ys) = crcFeed p (crcFeed p crc xs) ys := List.foldl_append

theorem xorFeed_nil (x : Byte) : xorFeed x [] = x := rfl

theorem xorFeed_cons (x b : Byte) (bs : List Byte) : xorFeed x (b :: bs) = xorFeed (x ^^^ b) bs := rfl

theorem xorFeed_append (x : Byte) (xs ys : List Byte) : xorFeed x (xs ++ ys) = xorFeed (xorFeed x xs) ys :=
  List.foldl_append

theorem crcOf_append (p : Params) (xs ys : List Byte) : crcOf p (xs ++ ys) = crcFeed p (crcOf p xs) ys :=
  crcFeed_append p p.crcInit xs ys

theorem xorOf_nil : xorOf [] = 0 := rfl

theorem xorOf_append (xs ys : List Byte) : xorOf (xs ++ ys) = xorFeed (xorOf xs) ys := xorFeed_append 0 xs ys

end Sys2Proof.Laws
end

