-- ==== Sys2Proof/Laws/PerInstr.lean ====
section
/-! SUPPORT. Statements about every instruction, made constructor by constructor.

`MbzBits`: an instruction is well-formed exactly when the bits that its row's format marks mbz in the table of
spec/30_encoding.md R72 are all 0 in the operand of its own word. -/

namespace Sys2Proof.Laws

open Sys2Proof.Machine

/-- For the row of the opcode map that holds the instruction's operation code: well-formed is mbz bits zero (R72, R76). -/
def MbzBits.Statement (i : Instr) : Prop :=
  ∀ row ∈ opcodeMap, row.op = opOf (encode i) →
    (WellFormed i = true ↔ argOf (encode i) &&& row.format.mbzMask = 0)

/-- The row with a given operation code, once it is known to be the only one. -/
theorem mbzBits_of_row {i : Instr} {op : BitVec 8} {arg : Word} {mask : Word}
    (he : encode i = packWord op arg)
    (hrow : ∀ row ∈ opcodeMap, row.op = op → row.format.mbzMask = mask)
    (h : WellFormed i = true ↔ arg &&& mask = 0) : MbzBits.Statement i := by
  intro row hm hop
  rw [he, opOf_packWord] at hop
  rw [he, argOf_packWord, hrow row hm hop]
  exact h

/-- A masked operand is zero when each field is zero or outside the mask. -/
theorem and_or_eq_zero_iff (x y m : Word) : (x ||| y) &&& m = 0 ↔ x &&& m = 0 ∧ y &&& m = 0 := by
  constructor
  · intro h
    constructor <;> ext i hi <;> have := congrArg (fun v => v.getLsbD i) h <;> simp [hi] at this <;> simp_all
  · rintro ⟨h1, h2⟩
    rw [BitVec.and_comm, BitVec.and_or_distrib_left, BitVec.and_comm m x, BitVec.and_comm m y, h1, h2]
    rfl

/-- A field whose bits the mask leaves out adds nothing. -/
theorem place_and_eq_zero {w : Nat} (x : BitVec w) (lo : Nat) (m : Word)
    (h : ∀ i < 32, lo ≤ i → i < lo + w → m.getLsbD i = false) : place x lo &&& m = 0 := by
  apply BitVec.eq_of_getLsbD_eq
  intro i hi
  rw [BitVec.getLsbD_and, getLsbD_place]
  by_cases h1 : lo ≤ i
  · by_cases h2 : i < lo + w
    · simp [h i hi h1 h2]
    · have : x.getLsbD (i - lo) = false := BitVec.getLsbD_of_ge _ _ (by omega)
      simp [this]
  · simp [h1]

/-- A field whose bits the mask covers is zero under it exactly when it is zero. -/
theorem place_and_eq_zero_iff {w : Nat} (x : BitVec w) (lo : Nat) (m : Word) (hw : lo + w ≤ 32)
    (h : ∀ i < 32, lo ≤ i → i < lo + w → m.getLsbD i = true) : place x lo &&& m = 0 ↔ x = 0#w := by
  constructor
  · intro h0
    apply BitVec.eq_of_getLsbD_eq
    intro i hi
    have h1 : lo + i < 32 := by omega
    have h2 := congrArg (fun v => v.getLsbD (lo + i)) h0
    simp only [BitVec.getLsbD_and, getLsbD_place, h (lo + i) h1 (by omega) (by omega)] at h2
    simpa [h1] using h2
  · rintro rfl
    apply BitVec.eq_of_getLsbD_eq
    intro i hi
    simp [getLsbD_place]

/-! ### Each format: its mask keeps exactly its must-be-zero fields -/

theorem argZ_mbzMask (a : ArgZ) : a.wf = true ↔ a.toArg &&& Format.mbzMask .Z = 0 := by
  simp only [ArgZ.wf, ArgZ.toArg, Format.mbzMask]
  rw [place_and_eq_zero_iff a.mbz 0 _ (by omega) (by decide)]
  simp

theorem argB_mbzMask (a : ArgB) : a.wf = true ↔ a.toArg &&& Format.mbzMask .B = 0 := by
  simp only [ArgB.wf, ArgB.toArg, Format.mbzMask, and_or_eq_zero_iff]
  rw [place_and_eq_zero_iff a.mbz 8 _ (by omega) (by decide)]
  simp [place_and_eq_zero a.v 0 0xFFFFFF00#32 (by decide)]

theorem argH_mbzMask (a : ArgH) : a.wf = true ↔ a.toArg &&& Format.mbzMask .H = 0 := by
  simp only [ArgH.wf, ArgH.toArg, Format.mbzMask, and_or_eq_zero_iff]
  rw [place_and_eq_zero_iff a.mbz 16 _ (by omega) (by decide)]
  simp [place_and_eq_zero a.v 0 0xFFFF0000#32 (by decide)]

theorem argES_mbzMask (a : ArgES) : a.wf = true ↔ a.toArg &&& Format.mbzMask .ES = 0 := by
  simp only [ArgES.wf, ArgES.toArg, Format.mbzMask, and_or_eq_zero_iff]
  rw [place_and_eq_zero_iff a.mbz 19 _ (by omega) (by decide)]
  simp [place_and_eq_zero a.base 8 0xFFF80000#32 (by decide),
    place_and_eq_zero a.modfield 0 0xFFF80000#32 (by decide)]

theorem argED_mbzMask (a : ArgED) : a.wf = true ↔ a.toArg &&& Format.mbzMask .ED = 0 := by
  simp only [ArgED.wf, ArgED.toArg, Format.mbzMask, and_or_eq_zero_iff]
  rw [place_and_eq_zero_iff a.mbz 17 _ (by omega) (by decide)]
  simp [place_and_eq_zero a.lastChunk 16 0xFFFE0000#32 (by decide),
    place_and_eq_zero a.windowId 14 0xFFFE0000#32 (by decide),
    place_and_eq_zero a.chunkNum 10 0xFFFE0000#32 (by decide),
    place_and_eq_zero a.transferId 8 0xFFFE0000#32 (by decide),
    place_and_eq_zero a.moduleId 0 0xFFFE0000#32 (by decide)]

theorem argEK_mbzMask (a : ArgEK) : a.wf = true ↔ a.toArg &&& Format.mbzMask .EK = 0 := by
  simp only [ArgEK.wf, ArgEK.toArg, Format.mbzMask, and_or_eq_zero_iff]
  rw [place_and_eq_zero_iff a.mbz 22 _ (by omega) (by decide)]
  simp [place_and_eq_zero a.base 11 0xFFC00000#32 (by decide),
    place_and_eq_zero a.chunk 8 0xFFC00000#32 (by decide),
    place_and_eq_zero a.low 0 0xFFC00000#32 (by decide)]

theorem argRS_mbzMask (a : ArgRS) : a.wf = true ↔ a.toArg &&& Format.mbzMask .RS = 0 := by
  simp only [ArgRS.wf, ArgRS.toArg, Format.mbzMask, and_or_eq_zero_iff]
  rw [place_and_eq_zero_iff a.mbz 10 _ (by omega) (by decide)]
  simp [place_and_eq_zero a.state 8 0xFFFFFC00#32 (by decide),
    place_and_eq_zero a.target 0 0xFFFFFC00#32 (by decide)]

theorem argRC_mbzMask (a : ArgRC) : a.wf = true ↔ a.toArg &&& Format.mbzMask .RC = 0 := by
  simp only [ArgRC.wf, ArgRC.toArg, Format.mbzMask, and_or_eq_zero_iff]
  rw [place_and_eq_zero_iff a.mbz 16 _ (by omega) (by decide)]
  simp [place_and_eq_zero a.cell 8 0xFFFF0000#32 (by decide),
    place_and_eq_zero a.moduleId 0 0xFFFF0000#32 (by decide)]

theorem argT_mbzMask (a : ArgT) : a.wf = true ↔ a.toArg &&& Format.mbzMask .T = 0 := by
  simp only [ArgT.wf, ArgT.toArg, Format.mbzMask, and_or_eq_zero_iff]
  rw [place_and_eq_zero_iff a.mbz 1 _ (by omega) (by decide)]
  simp [place_and_eq_zero a.txReady 0 0xFFFFFFFE#32 (by decide)]

theorem argCR_mbzMask (a : ArgCR) : a.wf = true ↔ a.toArg &&& Format.mbzMask .CR = 0 := by
  simp only [ArgCR.wf, ArgCR.toArg, Format.mbzMask, and_or_eq_zero_iff]
  rw [place_and_eq_zero_iff a.mbz 4 _ (by omega) (by decide)]
  simp [place_and_eq_zero a.index 0 0xFFFFFFF0#32 (by decide)]

theorem argCW_mbzMask (a : ArgCW) : a.wf = true ↔ a.toArg &&& Format.mbzMask .CW = 0 := by
  simp only [ArgCW.wf, ArgCW.toArg, Format.mbzMask, and_or_eq_zero_iff]
  rw [place_and_eq_zero_iff a.mbz 16 _ (by omega) (by decide)]
  rw [place_and_eq_zero_iff a.mbzLo 4 _ (by omega) (by decide)]
  simp [place_and_eq_zero a.value 8 0xFFFF00F0#32 (by decide),
    place_and_eq_zero a.index 0 0xFFFF00F0#32 (by decide), and_comm]

/-! ### One lemma per constructor -/

theorem MbzBits.nop (a : ArgZ) : MbzBits.Statement (.nop a) :=
  mbzBits_of_row (op := 0x00#8) (mask := Format.mbzMask .Z) rfl (by decide) (argZ_mbzMask a)

theorem MbzBits.csrRead (a : ArgCR) : MbzBits.Statement (.csrRead a) :=
  mbzBits_of_row (op := 0x01#8) (mask := Format.mbzMask .CR) rfl (by decide) (argCR_mbzMask a)

theorem MbzBits.csrWrite (a : ArgCW) : MbzBits.Statement (.csrWrite a) :=
  mbzBits_of_row (op := 0x02#8) (mask := Format.mbzMask .CW) rfl (by decide) (argCW_mbzMask a)

theorem MbzBits.softReset (a : ArgZ) : MbzBits.Statement (.softReset a) :=
  mbzBits_of_row (op := 0x0F#8) (mask := Format.mbzMask .Z) rfl (by decide) (argZ_mbzMask a)

theorem MbzBits.encStd (a : ArgES) : MbzBits.Statement (.encStd a) :=
  mbzBits_of_row (op := 0x10#8) (mask := Format.mbzMask .ES) rfl (by decide) (argES_mbzMask a)

theorem MbzBits.encSd (a : ArgED) : MbzBits.Statement (.encSd a) :=
  mbzBits_of_row (op := 0x11#8) (mask := Format.mbzMask .ED) rfl (by decide) (argED_mbzMask a)

theorem MbzBits.encKey (a : ArgEK) : MbzBits.Statement (.encKey a) :=
  mbzBits_of_row (op := 0x12#8) (mask := Format.mbzMask .EK) rfl (by decide) (argEK_mbzMask a)

theorem MbzBits.decStd (a : ArgX) : MbzBits.Statement (.decStd a) :=
  mbzBits_of_row (op := 0x14#8) (mask := Format.mbzMask .X) rfl (by decide) (by simp [WellFormed, Format.mbzMask])

theorem MbzBits.decSd (a : ArgX) : MbzBits.Statement (.decSd a) :=
  mbzBits_of_row (op := 0x15#8) (mask := Format.mbzMask .X) rfl (by decide) (by simp [WellFormed, Format.mbzMask])

theorem MbzBits.decKey (a : ArgX) : MbzBits.Statement (.decKey a) :=
  mbzBits_of_row (op := 0x16#8) (mask := Format.mbzMask .X) rfl (by decide) (by simp [WellFormed, Format.mbzMask])

theorem MbzBits.midClass (a : ArgB) : MbzBits.Statement (.midClass a) :=
  mbzBits_of_row (op := 0x17#8) (mask := Format.mbzMask .B) rfl (by decide) (argB_mbzMask a)

theorem MbzBits.reqState (a : ArgRS) : MbzBits.Statement (.reqState a) :=
  mbzBits_of_row (op := 0x21#8) (mask := Format.mbzMask .RS) rfl (by decide) (argRS_mbzMask a)

theorem MbzBits.reqHeartbeat (a : ArgB) : MbzBits.Statement (.reqHeartbeat a) :=
  mbzBits_of_row (op := 0x22#8) (mask := Format.mbzMask .B) rfl (by decide) (argB_mbzMask a)

theorem MbzBits.reqCell (a : ArgRC) : MbzBits.Statement (.reqCell a) :=
  mbzBits_of_row (op := 0x23#8) (mask := Format.mbzMask .RC) rfl (by decide) (argRC_mbzMask a)

theorem MbzBits.reqStatus (a : ArgB) : MbzBits.Statement (.reqStatus a) :=
  mbzBits_of_row (op := 0x24#8) (mask := Format.mbzMask .B) rfl (by decide) (argB_mbzMask a)

theorem MbzBits.reqRegack (a : ArgB) : MbzBits.Statement (.reqRegack a) :=
  mbzBits_of_row (op := 0x25#8) (mask := Format.mbzMask .B) rfl (by decide) (argB_mbzMask a)

theorem MbzBits.reqTimesync (a : ArgZ) : MbzBits.Statement (.reqTimesync a) :=
  mbzBits_of_row (op := 0x26#8) (mask := Format.mbzMask .Z) rfl (by decide) (argZ_mbzMask a)

theorem MbzBits.reqAnnounce (a : ArgZ) : MbzBits.Statement (.reqAnnounce a) :=
  mbzBits_of_row (op := 0x27#8) (mask := Format.mbzMask .Z) rfl (by decide) (argZ_mbzMask a)

theorem MbzBits.arbTick (a : ArgT) : MbzBits.Statement (.arbTick a) :=
  mbzBits_of_row (op := 0x28#8) (mask := Format.mbzMask .T) rfl (by decide) (argT_mbzMask a)

theorem MbzBits.awaitClrStatus (a : ArgB) : MbzBits.Statement (.awaitClrStatus a) :=
  mbzBits_of_row (op := 0x29#8) (mask := Format.mbzMask .B) rfl (by decide) (argB_mbzMask a)

theorem MbzBits.awaitClrCell (a : ArgB) : MbzBits.Statement (.awaitClrCell a) :=
  mbzBits_of_row (op := 0x2A#8) (mask := Format.mbzMask .B) rfl (by decide) (argB_mbzMask a)

theorem MbzBits.awaitClrModule (a : ArgB) : MbzBits.Statement (.awaitClrModule a) :=
  mbzBits_of_row (op := 0x2B#8) (mask := Format.mbzMask .B) rfl (by decide) (argB_mbzMask a)

theorem MbzBits.linkDown (a : ArgZ) : MbzBits.Statement (.linkDown a) :=
  mbzBits_of_row (op := 0x2C#8) (mask := Format.mbzMask .Z) rfl (by decide) (argZ_mbzMask a)

theorem MbzBits.linkUp (a : ArgZ) : MbzBits.Statement (.linkUp a) :=
  mbzBits_of_row (op := 0x2D#8) (mask := Format.mbzMask .Z) rfl (by decide) (argZ_mbzMask a)

theorem MbzBits.crcInit (a : ArgZ) : MbzBits.Statement (.crcInit a) :=
  mbzBits_of_row (op := 0x30#8) (mask := Format.mbzMask .Z) rfl (by decide) (argZ_mbzMask a)

theorem MbzBits.crcLoad (a : ArgH) : MbzBits.Statement (.crcLoad a) :=
  mbzBits_of_row (op := 0x31#8) (mask := Format.mbzMask .H) rfl (by decide) (argH_mbzMask a)

theorem MbzBits.crcByte (a : ArgB) : MbzBits.Statement (.crcByte a) :=
  mbzBits_of_row (op := 0x32#8) (mask := Format.mbzMask .B) rfl (by decide) (argB_mbzMask a)

theorem MbzBits.crcWord (a : ArgW) : MbzBits.Statement (.crcWord a) :=
  mbzBits_of_row (op := 0x33#8) (mask := Format.mbzMask .W) rfl (by decide) (by simp [WellFormed, Format.mbzMask])

theorem MbzBits.crcRead (a : ArgZ) : MbzBits.Statement (.crcRead a) :=
  mbzBits_of_row (op := 0x34#8) (mask := Format.mbzMask .Z) rfl (by decide) (argZ_mbzMask a)

theorem MbzBits.crcCheck (a : ArgH) : MbzBits.Statement (.crcCheck a) :=
  mbzBits_of_row (op := 0x35#8) (mask := Format.mbzMask .H) rfl (by decide) (argH_mbzMask a)

theorem MbzBits.xorInit (a : ArgZ) : MbzBits.Statement (.xorInit a) :=
  mbzBits_of_row (op := 0x38#8) (mask := Format.mbzMask .Z) rfl (by decide) (argZ_mbzMask a)

theorem MbzBits.xorByte (a : ArgB) : MbzBits.Statement (.xorByte a) :=
  mbzBits_of_row (op := 0x39#8) (mask := Format.mbzMask .B) rfl (by decide) (argB_mbzMask a)

theorem MbzBits.xorWord (a : ArgW) : MbzBits.Statement (.xorWord a) :=
  mbzBits_of_row (op := 0x3A#8) (mask := Format.mbzMask .W) rfl (by decide) (by simp [WellFormed, Format.mbzMask])

theorem MbzBits.xorRead (a : ArgZ) : MbzBits.Statement (.xorRead a) :=
  mbzBits_of_row (op := 0x3B#8) (mask := Format.mbzMask .Z) rfl (by decide) (argZ_mbzMask a)

theorem MbzBits.xorCheck (a : ArgB) : MbzBits.Statement (.xorCheck a) :=
  mbzBits_of_row (op := 0x3C#8) (mask := Format.mbzMask .B) rfl (by decide) (argB_mbzMask a)

end Sys2Proof.Laws
end

