-- ==== Sys2Proof/Laws/Units.lean ====
section
/-! SUPPORT. The unit of a command and its operation code agree. -/

namespace Sys2Proof.Laws

open Sys2Proof.Machine

/-- "Operation codes are grouped by unit in the high nibble" (R74). -/
theorem opOf_encode_div_16 (i : Instr) : (opOf (encode i)).toNat / 16 = (unitOf i).nibble := by
  cases i <;> rw [encode, opOf_packWord] <;> rfl

end Sys2Proof.Laws
end

