-- ==== Sys2Proof/Machine/IdNames.lean ====
section
/-! DEFINITION. The named base IDs and the frames the levels stand for (spec/40_id_codec.md R106, R107;
spec/41_arbiter.md R140), and the values of spec/00_scope.md R7 and R8. "For the host's use; no command of the block
depends on a name": nothing in the machine calls this file. It is the spec's table, so that a statement can speak of a
message by its name. -/

namespace Sys2Proof.Machine

/-- The direction of a frame (R106). -/
inductive Direction where
  | packToModule
  | moduleToPack
  deriving DecidableEq, Repr

/-- What the document gives for the module-ID field of a message (R106). -/
inductive FieldUse where
  /-- "module id" or `0x01..0x1F`. -/
  | assigned
  /-- `0x01..0x1F or 0x00`. -/
  | assignedOrBroadcast
  /-- `0x00`. -/
  | broadcast
  /-- `0xFF`. -/
  | unregistered
  /-- "not stated". -/
  | notStated
  deriving DecidableEq, Repr

/-- One row of the table of R106. -/
structure NamedBase where
  base : BaseId
  shifted : Word
  name : String
  direction : Direction
  field : FieldUse
  deriving DecidableEq, Repr

/-- The rows of R106 that carry sector data. -/
def sectorBases : List NamedBase := [
  ⟨0x3F0#11, 0x0FC00000#32, "Sector Request", .packToModule, .assigned⟩,
  ⟨0x3F1#11, 0x0FC40000#32, "SD data chunk", .moduleToPack, .assigned⟩,
  ⟨0x3F2#11, 0x0FC80000#32, "Window ACK", .packToModule, .assigned⟩,
  ⟨0x3F3#11, 0x0FCC0000#32, "Transfer Status", .moduleToPack, .assigned⟩]

/-- The rows of R106 from a module to the pack. -/
def moduleBases : List NamedBase := [
  ⟨0x500#11, 0x14000000#32, "Announcement", .moduleToPack, .unregistered⟩,
  ⟨0x501#11, 0x14040000#32, "Hardware", .moduleToPack, .notStated⟩,
  ⟨0x502#11, 0x14080000#32, "Status_1", .moduleToPack, .notStated⟩,
  ⟨0x503#11, 0x140C0000#32, "Status_2", .moduleToPack, .notStated⟩,
  ⟨0x504#11, 0x14100000#32, "Status_3", .moduleToPack, .notStated⟩,
  ⟨0x505#11, 0x14140000#32, "Detail", .moduleToPack, .notStated⟩,
  ⟨0x506#11, 0x14180000#32, "TimeRequest", .moduleToPack, .notStated⟩,
  ⟨0x507#11, 0x141C0000#32, "CellCommStatus1", .moduleToPack, .notStated⟩]

/-- The rows of R106 from the pack to modules. Registration carries the assigned id and AnnounceReq 0xFF
(spec/90_conflicts.md C3, C8). -/
def packBases : List NamedBase := [
  ⟨0x510#11, 0x14400000#32, "Registration", .packToModule, .assigned⟩,
  ⟨0x511#11, 0x14440000#32, "HardwareReq", .packToModule, .assigned⟩,
  ⟨0x512#11, 0x14480000#32, "StatusReq", .packToModule, .assigned⟩,
  ⟨0x514#11, 0x14500000#32, "StateChange", .packToModule, .assignedOrBroadcast⟩,
  ⟨0x515#11, 0x14540000#32, "DetailReq", .packToModule, .assigned⟩,
  ⟨0x516#11, 0x14580000#32, "SetTime", .packToModule, .broadcast⟩,
  ⟨0x517#11, 0x145C0000#32, "MaxState", .packToModule, .broadcast⟩,
  ⟨0x518#11, 0x14600000#32, "Deregister", .packToModule, .assigned⟩,
  ⟨0x51D#11, 0x14740000#32, "AnnounceReq", .packToModule, .unregistered⟩,
  ⟨0x51E#11, 0x14780000#32, "AllDeregister", .packToModule, .broadcast⟩,
  ⟨0x51F#11, 0x147C0000#32, "AllIsolate", .packToModule, .broadcast⟩]

/-- The table of R106. -/
def namedBases : List NamedBase := sectorBases ++ moduleBases ++ packBases

/-- The acknowledgement base of a key base: "the chunk base plus 0x0A0" (R107). -/
def keyAckBase (base : BaseId) : BaseId := base + 0x0A0#11

/-- The base of the one frame a grant of level `k` stands for (R140). -/
def grantBase : Level → BaseId
  | .stateChange => 0x514#11
  | .heartbeat => 0x517#11
  | .cellDetail => 0x515#11
  | .status => 0x512#11
  | .regAck => 0x510#11
  | .timeSync => 0x516#11
  | .announce => 0x51D#11

/-- The module-ID field of that frame, from the operand in the grant word (R140, C3). -/
def grantField : Level → Half → Byte
  | .stateChange, p => lowByte p
  | .heartbeat, _ => 0x00#8
  | .cellDetail, p => lowByte p
  | .status, p => lowByte p
  | .regAck, p => lowByte p
  | .timeSync, _ => 0x00#8
  | .announce, _ => 0xFF#8

/-- The module states in their order, Off the least (R8). -/
inductive ModuleState where
  | off | standby | precharge | on
  deriving DecidableEq, Repr

/-- The code of a module state; only Standby = 1 is the document's, the others are decision D15 (R8). -/
def ModuleState.code : ModuleState → BitVec 2
  | .off => 0#2
  | .standby => 1#2
  | .precharge => 2#2
  | .on => 3#2

/-- The valid values of a module-ID field: broadcast, assigned, unregistered sentinel (R7). -/
def validModfield (v : Byte) : Bool := v == 0x00#8 || decide (v.toNat ≤ 0x1F) || v == 0xFF#8

/-- The index 0..63 of a chunk in its sector, from a result of `DEC_SD` (R113, corner cases). -/
def sectorChunkIndex (res : Word) : BitVec 6 := res.extractLsb' 10 6

/-- The key type of a base that `DEC_KEY` accepts: 0 PackDevice, 1 AppDevice, 2 ComponentIds (R114, corner cases). -/
def keyType (base : BaseId) : BaseId := base - 0x407#11

end Sys2Proof.Machine
end

