-- ==== Sys2Proof/Tests/Slice0.lean ====
section
/-! SUPPORT. Tests of the model: expected values come from the spec (the rule of each command and
spec/95_test_vectors.md), never from the model. Words are written out from R72 and R74, field by field, the high bits
first. The theorems `witness_...` show for each statement with hypotheses a concrete state and operands that meet them,
clause by clause, at the edges of their ranges. -/

namespace Sys2Proof.Tests

open Sys2Proof.Machine

/-! ### Helpers -/

/-- The registers after reset with the default parameters. -/
def cold : Regs := Regs.reset defaultParams

/-- The registers after reset, the link up and nothing requested. -/
def up : Regs := { cold with link := true }

/-- A machine with these registers and these commands at its port. -/
def machine (r : Regs) (cws : List CmdWord := []) : State := ⟨r, defaultParams, cws, []⟩

/-- What one command answers: the registers after it, the result, the status. -/
def answer (i : Instr) (r : Regs) : Option (Regs × Word × Status) :=
  match exec i (machine r) with
  | .next t => t.responses.head?.map (fun a => (t.regs, a.res, a.st))
  | _ => none

/-- The result and the status alone. -/
def reply (i : Instr) (r : Regs) : Option (Word × Status) := (answer i r).map (fun a => a.2)

/-- The registers and the responses after one step. -/
def stepped (s : State) : Option (Regs × List Response) :=
  match step s with
  | .next t => some (t.regs, t.responses)
  | _ => none

/-! ### Well-formedness: an ill-formed term of every format is refused, a well-formed one is not -/

theorem test_wf_Z : WellFormed (.nop ⟨1⟩) = false ∧ WellFormed (.nop ⟨0⟩) = true := by decide
theorem test_wf_B : WellFormed (.crcByte ⟨0, 1⟩) = false ∧ WellFormed (.crcByte ⟨0xFF, 0⟩) = true := by decide
theorem test_wf_H : WellFormed (.crcLoad ⟨0, 0x8000⟩) = false ∧ WellFormed (.crcLoad ⟨0xFFFF, 0⟩) = true := by decide
theorem test_wf_ES : WellFormed (.encStd ⟨0, 0, 1⟩) = false ∧ WellFormed (.encStd ⟨0xFF, 0x7FF, 0⟩) = true := by decide
theorem test_wf_ED : WellFormed (.encSd ⟨0, 0, 0, 0, 0, 1⟩) = false ∧
    WellFormed (.encSd ⟨0xFF, 3, 15, 3, 1, 0⟩) = true := by decide
theorem test_wf_EK : WellFormed (.encKey ⟨0, 0, 0x407, 1⟩) = false ∧
    WellFormed (.encKey ⟨0xFF, 7, 0x7FF, 0⟩) = true := by decide
theorem test_wf_RS : WellFormed (.reqState ⟨0, 0, 1⟩) = false ∧ WellFormed (.reqState ⟨0xFF, 3, 0⟩) = true := by decide
theorem test_wf_RC : WellFormed (.reqCell ⟨1, 0, 1⟩) = false ∧ WellFormed (.reqCell ⟨0, 0xFF, 0⟩) = true := by decide
theorem test_wf_T : WellFormed (.arbTick ⟨1, 1⟩) = false ∧ WellFormed (.arbTick ⟨1, 0⟩) = true := by decide
theorem test_wf_CR : WellFormed (.csrRead ⟨0, 1⟩) = false ∧ WellFormed (.csrRead ⟨15, 0⟩) = true := by decide
theorem test_wf_CW_low : WellFormed (.csrWrite ⟨0, 1, 0, 0⟩) = false := by decide
theorem test_wf_CW_high : WellFormed (.csrWrite ⟨0, 0, 0, 1⟩) = false ∧
    WellFormed (.csrWrite ⟨15, 0, 0xFF, 0⟩) = true := by decide

/-- Every must-be-zero check has its ill-formed term; formats W and X have no such bit. -/
theorem test_wf_W_X : WellFormed (.crcWord ⟨0xFF, 0xFF, 0xFF, 0xFF⟩) = true ∧ WellFormed (.decStd ⟨0, 7⟩) = true := by
  decide

/-! ### Decoding: for every constructor a word written out from its format (R72) and its row (R74) -/

theorem test_decode_nop : decode (0x00#8 ++ 5#32) = .ok (.nop ⟨5⟩) := by rfl
theorem test_decode_csrRead : decode (0x01#8 ++ 0#28 ++ 13#4) = .ok (.csrRead ⟨13, 0⟩) := by rfl
theorem test_decode_csrWrite : decode (0x02#8 ++ 1#16 ++ 0x80#8 ++ 3#4 ++ 2#4) = .ok (.csrWrite ⟨2, 3, 0x80, 1⟩) := by rfl
theorem test_decode_softReset : decode (0x0F#8 ++ 0#32) = .ok (.softReset ⟨0⟩) := by rfl
theorem test_decode_encStd : decode (0x10#8 ++ 2#13 ++ 0x510#11 ++ 0x01#8) = .ok (.encStd ⟨0x01, 0x510, 2⟩) := by rfl
theorem test_decode_encSd : decode (0x11#8 ++ 4#15 ++ 1#1 ++ 2#2 ++ 5#4 ++ 3#2 ++ 9#8) =
    .ok (.encSd ⟨9, 3, 5, 2, 1, 4⟩) := by rfl
theorem test_decode_encKey : decode (0x12#8 ++ 1#10 ++ 0x407#11 ++ 7#3 ++ 0x0A#8) =
    .ok (.encKey ⟨0x0A, 7, 0x407, 1⟩) := by rfl
theorem test_decode_decStd : decode (0x14#8 ++ 5#3 ++ 0x140000FF#29) = .ok (.decStd ⟨0x140000FF, 5⟩) := by rfl
theorem test_decode_decSd : decode (0x15#8 ++ 0#3 ++ 0x0FC6A803#29) = .ok (.decSd ⟨0x0FC6A803, 0⟩) := by rfl
theorem test_decode_decKey : decode (0x16#8 ++ 7#3 ++ 0x101C0700#29) = .ok (.decKey ⟨0x101C0700, 7⟩) := by rfl
theorem test_decode_midClass : decode (0x17#8 ++ 0#24 ++ 0xFF#8) = .ok (.midClass ⟨0xFF, 0⟩) := by rfl
theorem test_decode_reqState : decode (0x21#8 ++ 1#22 ++ 3#2 ++ 0x1F#8) = .ok (.reqState ⟨0x1F, 3, 1⟩) := by rfl
theorem test_decode_reqHeartbeat : decode (0x22#8 ++ 0#24 ++ 3#8) = .ok (.reqHeartbeat ⟨3, 0⟩) := by rfl
theorem test_decode_reqCell : decode (0x23#8 ++ 1#16 ++ 7#8 ++ 2#8) = .ok (.reqCell ⟨2, 7, 1⟩) := by rfl
theorem test_decode_reqStatus : decode (0x24#8 ++ 1#24 ++ 2#8) = .ok (.reqStatus ⟨2, 1⟩) := by rfl
theorem test_decode_reqRegack : decode (0x25#8 ++ 0#24 ++ 31#8) = .ok (.reqRegack ⟨31, 0⟩) := by rfl
theorem test_decode_reqTimesync : decode (0x26#8 ++ 0#32) = .ok (.reqTimesync ⟨0⟩) := by rfl
theorem test_decode_reqAnnounce : decode (0x27#8 ++ 1#32) = .ok (.reqAnnounce ⟨1⟩) := by rfl
theorem test_decode_arbTick : decode (0x28#8 ++ 1#31 ++ 0#1) = .ok (.arbTick ⟨0, 1⟩) := by rfl
theorem test_decode_awaitClrStatus : decode (0x29#8 ++ 0#24 ++ 2#8) = .ok (.awaitClrStatus ⟨2, 0⟩) := by rfl
theorem test_decode_awaitClrCell : decode (0x2A#8 ++ 0#24 ++ 2#8) = .ok (.awaitClrCell ⟨2, 0⟩) := by rfl
theorem test_decode_awaitClrModule : decode (0x2B#8 ++ 0#24 ++ 2#8) = .ok (.awaitClrModule ⟨2, 0⟩) := by rfl
theorem test_decode_linkDown : decode (0x2C#8 ++ 0#32) = .ok (.linkDown ⟨0⟩) := by rfl
theorem test_decode_linkUp : decode (0x2D#8 ++ 0#32) = .ok (.linkUp ⟨0⟩) := by rfl
theorem test_decode_crcInit : decode (0x30#8 ++ 0#32) = .ok (.crcInit ⟨0⟩) := by rfl
theorem test_decode_crcLoad : decode (0x31#8 ++ 1#16 ++ 0x1234#16) = .ok (.crcLoad ⟨0x1234, 1⟩) := by rfl
theorem test_decode_crcByte : decode (0x32#8 ++ 1#24 ++ 0x41#8) = .ok (.crcByte ⟨0x41, 1⟩) := by rfl
theorem test_decode_crcWord : decode (0x33#8 ++ 0x34#8 ++ 0x33#8 ++ 0x32#8 ++ 0x31#8) =
    .ok (.crcWord ⟨0x31, 0x32, 0x33, 0x34⟩) := by rfl
theorem test_decode_crcRead : decode (0x34#8 ++ 0#32) = .ok (.crcRead ⟨0⟩) := by rfl
theorem test_decode_crcCheck : decode (0x35#8 ++ 0#16 ++ 0x29B1#16) = .ok (.crcCheck ⟨0x29B1, 0⟩) := by rfl
theorem test_decode_xorInit : decode (0x38#8 ++ 0#32) = .ok (.xorInit ⟨0⟩) := by rfl
theorem test_decode_xorByte : decode (0x39#8 ++ 0#24 ++ 1#8) = .ok (.xorByte ⟨1, 0⟩) := by rfl
theorem test_decode_xorWord : decode (0x3A#8 ++ 0x01#8 ++ 0x02#8 ++ 0x04#8 ++ 0x08#8) =
    .ok (.xorWord ⟨0x08, 0x04, 0x02, 0x01⟩) := by rfl
theorem test_decode_xorRead : decode (0x3B#8 ++ 0#32) = .ok (.xorRead ⟨0⟩) := by rfl
theorem test_decode_xorCheck : decode (0x3C#8 ++ 0#24 ++ 0x65#8) = .ok (.xorCheck ⟨0x65, 0⟩) := by rfl

/-- R75: the operation codes at the edges of its ranges are refused by name. -/
theorem test_decode_illegal :
    decode (0x03#8 ++ 0#32) = .error (.illegalOp 0x03) ∧ decode (0x13#8 ++ 0#32) = .error (.illegalOp 0x13) ∧
    decode (0x20#8 ++ 0#32) = .error (.illegalOp 0x20) ∧ decode (0x2E#8 ++ 0#32) = .error (.illegalOp 0x2E) ∧
    decode (0x37#8 ++ 0#32) = .error (.illegalOp 0x37) ∧ decode (0x3D#8 ++ 0#32) = .error (.illegalOp 0x3D) ∧
    decode (0xFF#8 ++ 0#32) = .error (.illegalOp 0xFF) := by
  refine ⟨?_, ?_, ?_, ?_, ?_, ?_, ?_⟩ <;> rfl

/-- The encoder writes the same words (R70, R72): `ENC_STD 0x01, 0x510` has `arg = 0x00051001` (R108). -/
theorem test_encode_encStd : encode (.encStd ⟨0x01, 0x510, 0⟩) = 0x1000051001#40 := by decide

/-- The host's question, and the step that runs the word (R108). -/
theorem test_table_word : decodeTableWord 40 0x1000051001 = some (.encStd ⟨0x01, 0x510, 0⟩) ∧
    stepped (State.reset.withFetchWord 40 0x1000051001) = some (cold, [⟨0x14400001, .ok⟩]) := by decide

/-- An illegal command is answered, not stopped on: `.cmd 0x13, 0x00000000` (R75). -/
theorem test_step_illegal : stepped (machine up [0x1300000000#40]) = some (up, [⟨0, .eIllegalOp⟩]) := by decide

/-- R71, R250: the response word of a refused `CRC_CHECK`. -/
theorem test_response_word : Response.word ⟨0x20, .eBadCrc⟩ = 0x8600000020#40 := by decide

/-! ### The text of commands (R80, R81) -/

/-- A line of a listing with a comment and an expected response; a line that is only a comment. -/
theorem test_assemble_line :
    assembleLine "REQ_CELL 2, 7 ; one cell".toList = some [0x2300000702#40] ∧
    assembleLine "ENC_SD 3, 0, 5, 2, 0 => 0x0FC69403, OK".toList = some [0x1100009403#40] ∧
    assembleLine "; nothing".toList = some [] ∧ assembleLine ".cmd 0x13, 0x00000000".toList = some [0x1300000000#40] := by
  decide

/-- A pseudo-command of two words, and an operand too wide for its field. -/
theorem test_assemble_pseudo :
    assemble "CRC_CHUNK" [0x31, 0x32, 0x33, 0x34, 0x35, 0x36, 0x37, 0x38] = some [0x3334333231#40, 0x3338373635#40] ∧
    assemble "CFG_SET" [0x81] = some [0x0200008100#40] ∧ assemble "ENC_STD" [0x100, 0] = none := by decide

/-- R106: the name of the SD data base and its shifted form. -/
theorem test_named_base :
    (sectorBases.map (fun row => row.base)).contains sdDataBase = true ∧
      sectorBases.all (fun row => row.shifted == row.base.setWidth 32 <<< 18) = true := by decide

/-! ### One or two small tests of each command, from the example of its rule -/

theorem test_nop : answer (.nop ⟨0⟩) up = some (up, 0, .ok) ∧ answer (.nop ⟨1⟩) up = some (up, 0, .eBadArg) := by decide
theorem test_csrRead : answer (.csrRead ⟨8, 0⟩) { up with req := 0xFE } = some ({ up with req := 0xFE }, 0xFE, .ok) ∧
    reply (.csrRead ⟨14, 0⟩) up = some (0, .eBadArg) := by decide
theorem test_csrRead_link : reply (.csrRead ⟨11, 0⟩) up = some (1, .ok) ∧
    reply (.csrRead ⟨12, 0⟩) cold = some (0xFFFF, .ok) := by decide
theorem test_csrWrite : answer (.csrWrite ⟨0, 0, 0x01, 0⟩) { cold with cfg := 0x80 } =
    some ({ cold with cfg := 0x01 }, 0x80, .ok) := by decide
theorem test_csrWrite_refused : answer (.csrWrite ⟨8, 0, 0xFF, 0⟩) cold = some (cold, 0, .eBadArg) := by decide
theorem test_softReset : answer (.softReset ⟨0⟩) { up with cfg := 0xFF, req := 0x80, param1 := 7, crc := 0, xsum := 5 } =
    some (cold, 0, .ok) := by decide
theorem test_encStd : answer (.encStd ⟨0x01, 0x510, 0⟩) cold = some (cold, 0x14400001, .ok) := by decide
theorem test_encStd_largest : reply (.encStd ⟨0xFF, 0x7FF, 0⟩) cold = some (0x1FFC00FF, .ok) := by decide
theorem test_encSd : answer (.encSd ⟨3, 0, 5, 2, 0, 0⟩) cold = some (cold, 0x0FC69403, .ok) := by decide
theorem test_encSd_largest : reply (.encSd ⟨0xFF, 3, 15, 3, 1, 0⟩) cold = some (0x0FC7FFFF, .ok) := by decide
theorem test_encKey : answer (.encKey ⟨0x00, 7, 0x407, 0⟩) cold = some (cold, 0x101C0700, .ok) := by decide
theorem test_encKey_ack : reply (.encKey ⟨0, 0, 0x4A7, 0⟩) cold = some (0, .eUnknownId) := by decide
theorem test_decStd : answer (.decStd ⟨0x140000FF, 0⟩) cold = some (cold, 0x000500FF, .ok) := by decide
theorem test_decStd_zbase : reply (.decStd ⟨0x000000FF, 0⟩) { cold with cfg := 1 } = some (0x000500FF, .okAliased) ∧
    reply (.decStd ⟨0x000000FF, 0⟩) cold = some (0, .eUnknownId) := by decide
theorem test_decSd : answer (.decSd ⟨0x0FC6A803, 0⟩) cold = some (cold, 0x0002A803, .ok) := by decide
theorem test_decSd_order : reply (.decSd ⟨0x140000FF, 0⟩) cold = some (0, .eUnknownId) ∧
    reply (.decSd ⟨0x0FC48003, 0⟩) cold = some (0, .eBadArg) := by decide
theorem test_decKey : answer (.decKey ⟨0x101C0700, 0⟩) cold = some (cold, 0x00203F00, .ok) := by decide
theorem test_decKey_ignored : reply (.decKey ⟨0x101C0800, 7⟩) cold = some (0x00203800, .ok) := by decide
theorem test_midClass : reply (.midClass ⟨0xFF, 0⟩) cold = some (2, .ok) ∧
    reply (.midClass ⟨0x1F, 0⟩) cold = some (1, .ok) ∧ reply (.midClass ⟨0x20, 0⟩) cold = some (3, .ok) := by decide
theorem test_reqState : answer (.reqState ⟨0x00, 3, 0⟩) up =
    some ({ up with req := 0x02, param1 := 0x0300 }, 0, .ok) := by decide
theorem test_reqState_refused : reply (.reqState ⟨0xFF, 0, 0⟩) up = some (0, .eBadArg) ∧
    reply (.reqState ⟨0, 0, 0⟩) cold = some (0, .eLinkDown) := by decide
theorem test_reqHeartbeat : answer (.reqHeartbeat ⟨3, 0⟩) up =
    some ({ up with req := 0x04, param2 := 3 }, 0, .ok) := by decide
theorem test_reqCell : answer (.reqCell ⟨2, 7, 0⟩) up =
    some ({ up with req := 0x08, param3 := 0x0702 }, 0, .ok) := by decide
theorem test_reqStatus : answer (.reqStatus ⟨2, 0⟩) { up with awStatus := 4 } =
    some ({ up with awStatus := 4 }, 0, .eGated) := by decide
theorem test_reqStatus_replaces : answer (.reqStatus ⟨2, 0⟩) { up with req := 0x10, param4 := 1 } =
    some ({ up with req := 0x10, param4 := 2 }, 1, .okCoalesced) := by decide
theorem test_reqRegack : answer (.reqRegack ⟨1, 0⟩) up =
    some ({ up with req := 0x20, param5 := 1 }, 0, .ok) := by decide
theorem test_reqTimesync : answer (.reqTimesync ⟨0⟩) up = some ({ up with req := 0x40 }, 0, .ok) := by decide
theorem test_reqAnnounce : answer (.reqAnnounce ⟨0⟩) { up with req := 0x80 } =
    some ({ up with req := 0x80 }, 0, .okCoalesced) := by decide
theorem test_arbTick : answer (.arbTick ⟨1, 0⟩) { up with req := 0x90, param4 := 2 } =
    some ({ up with req := 0x80, param4 := 2, awStatus := 4 }, 0x00040002, .ok) := by decide
theorem test_arbTick_busy : answer (.arbTick ⟨0, 0⟩) { up with req := 0x80 } =
      some ({ up with req := 0x80 }, 0x00070000, .eTxBusy) ∧
    answer (.arbTick ⟨0, 0⟩) { up with req := 0x80, cfg := 0x80 } =
      some ({ up with cfg := 0x80 }, 0x00070000, .txDropped) := by decide
theorem test_awaitClrStatus : answer (.awaitClrStatus ⟨2, 0⟩) { up with awStatus := 6 } =
    some ({ up with awStatus := 2 }, 1, .ok) := by decide
theorem test_awaitClrCell : answer (.awaitClrCell ⟨2, 0⟩) { up with awCell := 4 } = some (up, 1, .ok) := by decide
theorem test_awaitClrModule : answer (.awaitClrModule ⟨2, 0⟩) { up with awStatus := 6, awCell := 4 } =
    some ({ up with awStatus := 2 }, 3, .ok) := by decide
theorem test_linkDown : answer (.linkDown ⟨0⟩) { up with req := 8, awStatus := 2 } = some (cold, 8, .ok) := by decide
theorem test_linkUp : answer (.linkUp ⟨0⟩) cold = some ({ up with req := 0x80 }, 1, .ok) ∧
    answer (.linkUp ⟨0⟩) { up with awStatus := 2 } = some ({ up with awStatus := 2 }, 0, .ok) := by decide
theorem test_crcInit : answer (.crcInit ⟨0⟩) { cold with crc := 0x1234 } = some (cold, 0, .ok) := by decide
theorem test_crcLoad : answer (.crcLoad ⟨0x1234, 0⟩) cold = some ({ cold with crc := 0x1234 }, 0, .ok) := by decide
theorem test_crcByte : answer (.crcByte ⟨0x41, 0⟩) cold = some ({ cold with crc := 0xB915 }, 0xB915, .ok) := by decide
theorem test_crcWord : reply (.crcWord ⟨0x31, 0x32, 0x33, 0x34⟩) cold = some (0x5349, .ok) := by decide +kernel

/-- R192: the check values of the four named variants over "123456789", and of the initial value 0x1D0F. -/
theorem test_crc_variants :
    let digits := [0x31#8, 0x32#8, 0x33#8, 0x34#8, 0x35#8, 0x36#8, 0x37#8, 0x38#8, 0x39#8]
    let reflected : Params := { defaultParams with crcReflect := true }
    crcFeed defaultParams 0xFFFF digits = 0x29B1 ∧ crcFeed defaultParams 0x0000 digits = 0x31C3 ∧
    crcFeed reflected 0x0000 digits = 0x2189 ∧ crcFeed reflected 0xFFFF digits ^^^ 0xFFFF = 0x906E ∧
    crcFeed defaultParams 0x1D0F digits = 0xE5CC := by decide +kernel

/-- R206: the XOR-8 of the bytes 0 to 62 is 0x3F; R207: that of the Sector Request of scenario 4 is 0x65. -/
theorem test_xorOf : xorOf ((List.range 63).map (BitVec.ofNat 8)) = 0x3F ∧ xorOf [1, 0, 0x64, 0, 0, 0, 0] = 0x65 := by
  decide

theorem test_crcRead : reply (.crcRead ⟨0⟩) { cold with crc := 0x29B1 } = some (0x29B129B1, .ok) := by decide
theorem test_crcCheck : reply (.crcCheck ⟨0x29B1, 0⟩) { cold with crc := 0x29B1 } = some (0, .ok) ∧
    reply (.crcCheck ⟨0x29B0, 0⟩) { cold with crc := 0x29B1 } = some (0x20, .eBadCrc) := by decide
theorem test_xorInit : answer (.xorInit ⟨0⟩) { cold with xsum := 0x65 } = some (cold, 0, .ok) := by decide
theorem test_xorByte : answer (.xorByte ⟨1, 0⟩) cold = some ({ cold with xsum := 1 }, 1, .ok) := by decide
theorem test_xorWord : answer (.xorWord ⟨0x08, 0x04, 0x02, 0x01⟩) cold =
    some ({ cold with xsum := 0x0F }, 0x0F, .ok) := by decide
theorem test_xorRead : reply (.xorRead ⟨0⟩) { cold with xsum := 0x65 } = some (0x65, .ok) := by decide
theorem test_xorCheck : reply (.xorCheck ⟨0x65, 0⟩) { cold with xsum := 0x65 } = some (0, .ok) ∧
    reply (.xorCheck ⟨0x64, 0⟩) { cold with xsum := 0x65 } = some (1, .eBadChecksum) := by decide

/-! ### Witnesses: a state and operands that meet the hypotheses of each statement, clause by clause -/

/-- The link is up and a level-4 request for module 2 is latched. -/
def asking : Regs := { up with req := 0x10, param4 := 2 }

/-- The link is up, nothing is requested, and modules 1 and 31 are in flight on both registers. -/
def flying : Regs := { up with awStatus := 0x80000002, awCell := 0x80000002 }

/-- Every level requested. -/
def busy : Regs := { up with req := 0xFE, param1 := 0x0305, param2 := 3, param3 := 0x0702, param4 := 2, param5 := 1 }

/-- `NopDoesNothing`, `SoftResetRestoresEveryRegister`, `LinkDownCancelsEverything`, `LinkUpActsOnTheChange`, the Z clauses
of `CrcInitAndLoadSetTheAccumulator`, `CrcReadGivesRawAndFinal`, `XorInitAndByteFollowTheRule` and
`XorReadAndCheckFollowTheRule`: a must-be-zero bit at either end. -/
theorem witness_mbz_Z : (1#32 ≠ 0 ∧ 0x80000000#32 ≠ 0) ∧ reply (.nop ⟨0x80000000⟩) up = some (0, .eBadArg) ∧
    reply (.linkDown ⟨1⟩) up = some (0, .eBadArg) ∧ reply (.linkUp ⟨1⟩) up = some (0, .eBadArg) ∧
    reply (.crcRead ⟨1⟩) up = some (0, .eBadArg) ∧ reply (.xorRead ⟨1⟩) up = some (0, .eBadArg) := by decide

/-- The must-be-zero clauses of formats B and H: `CrcByteFeedsOneByte`, `XorInitAndByteFollowTheRule`,
`XorReadAndCheckFollowTheRule`, `CrcInitAndLoadSetTheAccumulator`. -/
theorem witness_mbz_B_H : (1#24 ≠ 0 ∧ 0x800000#24 ≠ 0 ∧ 1#16 ≠ 0 ∧ 0x8000#16 ≠ 0) ∧
    reply (.crcByte ⟨0, 1⟩) up = some (0, .eBadArg) ∧ reply (.xorByte ⟨0, 1⟩) up = some (0, .eBadArg) ∧
    reply (.xorCheck ⟨0, 1⟩) up = some (0, .eBadArg) ∧ reply (.crcLoad ⟨0, 1⟩) up = some (0, .eBadArg) := by decide

theorem witness_CsrReadGivesTheRegister : (1#28 ≠ 0 ∧ 0x8000000#28 ≠ 0) ∧
    reply (.csrRead ⟨0, 1⟩) up = some (0, .eBadArg) ∧ reply (.csrRead ⟨15, 0⟩) up = some (0, .eBadArg) := by decide

theorem witness_CsrWriteWritesOnlyCfg :
    ((1#4 ≠ 0 ∨ (0 : BitVec 4) ≠ 0 ∨ (0 : BitVec 16) ≠ 0) ∧ (15#4 ≠ 0 ∨ (0 : BitVec 4) ≠ 0 ∨ (0 : BitVec 16) ≠ 0) ∧
      ((0 : BitVec 4) ≠ 0 ∨ 1#4 ≠ 0 ∨ (0 : BitVec 16) ≠ 0) ∧ ((0 : BitVec 4) ≠ 0 ∨ (0 : BitVec 4) ≠ 0 ∨ 1#16 ≠ 0)) ∧
    reply (.csrWrite ⟨15, 0, 1, 0⟩) up = some (0, .eBadArg) ∧ reply (.csrWrite ⟨0, 1, 1, 0⟩) up = some (0, .eBadArg) ∧
    reply (.csrWrite ⟨0, 0, 1, 0x8000⟩) up = some (0, .eBadArg) := by decide

theorem witness_EncStdBuildsTheIdentifier : (1#13 ≠ 0 ∧ 0x1000#13 ≠ 0) ∧
    reply (.encStd ⟨0, 0, 0x1000⟩) up = some (0, .eBadArg) := by decide

theorem witness_EncSdBuildsTheIdentifier : (1#15 ≠ 0 ∧ 0x4000#15 ≠ 0) ∧
    reply (.encSd ⟨0, 0, 0, 0, 0, 1⟩) up = some (0, .eBadArg) := by decide

/-- The key bases and their neighbours, and a base that is no key base with a must-be-zero bit set. -/
theorem witness_EncKeyBuildsTheIdentifier :
    ([0x407#11, 0x408#11, 0x409#11].all (fun b => b = 0x407#11 ∨ b = 0x408#11 ∨ b = 0x409#11) = true) ∧
    ([0x406#11, 0x40A#11, 0x4A7#11, 0x7FF#11].all (fun b => ¬(b = 0x407#11 ∨ b = 0x408#11 ∨ b = 0x409#11)) = true) ∧ 1#10 ≠ 0 ∧
    reply (.encKey ⟨0, 0, 0x409, 0⟩) up = some (0x10240000, .ok) ∧
    reply (.encKey ⟨0, 0, 0x40A, 0⟩) up = some (0, .eUnknownId) ∧
    reply (.encKey ⟨0, 0, 0x40A, 1⟩) up = some (0, .eBadArg) := by decide

/-- An identifier with a base, and nothing else. -/
def withBase (base : BaseId) : ExtId := base.setWidth 29 <<< 18

/-- Both ends of both ranges and the four bases beside them (R112 (f)), base 0 under both values of `CFG[0]`. -/
theorem witness_DecStdReadsTheIdentifier :
    ([0x500#11, 0x51F#11, 0x3F0#11, 0x3F3#11].all (fun b => (withBase b).extractLsb' 18 11 = b ∧
      ((0x500 ≤ b.toNat ∧ b.toNat ≤ 0x51F) ∨ (0x3F0 ≤ b.toNat ∧ b.toNat ≤ 0x3F3)) ∧
      (reply (.decStd ⟨withBase b, 0⟩) up).map (fun a => a.2) = some .ok) = true) ∧
    ([0x4FF#11, 0x520#11, 0x3EF#11, 0x3F4#11, 0x000#11].all (fun b => (withBase b).extractLsb' 18 11 = b ∧
      ¬((0x500 ≤ b.toNat ∧ b.toNat ≤ 0x51F) ∨ (0x3F0 ≤ b.toNat ∧ b.toNat ≤ 0x3F3)) ∧
      ¬(b = 0 ∧ up.cfg.getLsbD 0 = true) ∧ reply (.decStd ⟨withBase b, 0⟩) up = some (0, .eUnknownId)) = true) ∧
    ((withBase 0).extractLsb' 18 11 = 0 ∧ ({ up with cfg := 1 } : Regs).cfg.getLsbD 0 = true) := by decide

theorem witness_DecSdReadsTheIdentifier :
    ((withBase 0x3F0).extractLsb' 18 11 ≠ 0x3F1#11 ∧ (withBase 0x3F2).extractLsb' 18 11 ≠ 0x3F1#11) ∧
    ((withBase 0x3F1).extractLsb' 18 11 = 0x3F1#11 ∧ (withBase 0x3F1).getLsbD 17 = false) ∧
    ((0x0FC60000#29).extractLsb' 18 11 = 0x3F1#11 ∧ (0x0FC60000#29).getLsbD 17 = true) := by decide

theorem witness_DecKeyReadsTheIdentifier :
    ([0x407#11, 0x408#11, 0x409#11].all (fun b => b = (withBase b).extractLsb' 18 11 ∧
      (b = 0x407#11 ∨ b = 0x408#11 ∨ b = 0x409#11)) = true) ∧
    ([0x406#11, 0x40A#11].all (fun b => b = (withBase b).extractLsb' 18 11 ∧
      ¬(b = 0x407#11 ∨ b = 0x408#11 ∨ b = 0x409#11)) = true) := by decide

/-- The edges of R115. -/
theorem witness_MidClassClassifies :
    (0x01 ≤ (0x01#8).toNat ∧ (0x01#8).toNat ≤ 0x1F) ∧ (0x01 ≤ (0x1F#8).toNat ∧ (0x1F#8).toNat ≤ 0x1F) ∧
    (0x20 ≤ (0x20#8).toNat ∧ (0x20#8).toNat ≤ 0xFE) ∧ (0x20 ≤ (0xFE#8).toNat ∧ (0xFE#8).toNat ≤ 0xFE) ∧
    reply (.midClass ⟨0, 0⟩) up = some (0, .ok) ∧ reply (.midClass ⟨0xFE, 0⟩) up = some (3, .ok) ∧
    reply (.midClass ⟨0, 1⟩) up = some (0, .eBadArg) := by decide

/-- Target 0x1F is accepted, 0x20 is not; the link down and up; the flag clear and set. -/
theorem witness_ReqStateLatchesLevelOne :
    (0x1F < (0x20#8).toNat ∧ (0x1F#8).toNat ≤ 0x1F) ∧ cold.link = false ∧
    (up.link = true ∧ up.req.getLsbD 1 = false) ∧ (busy.link = true ∧ busy.req.getLsbD 1 = true) ∧
    reply (.reqState ⟨0x20, 0, 0⟩) up = some (0, .eBadArg) ∧ reply (.reqState ⟨0x1F, 3, 0⟩) up = some (0, .ok) ∧
    reply (.reqState ⟨0x1F, 3, 0⟩) busy = some (0x0305, .okCoalesced) := by decide

theorem witness_ReqHeartbeatLatchesLevelTwo :
    (3 < (4#8).toNat ∧ (3#8).toNat ≤ 3) ∧ cold.link = false ∧
    (up.link = true ∧ up.req.getLsbD 2 = false) ∧ (busy.link = true ∧ busy.req.getLsbD 2 = true) ∧
    reply (.reqHeartbeat ⟨4, 0⟩) up = some (0, .eBadArg) ∧
    reply (.reqHeartbeat ⟨0, 0⟩) busy = some (3, .okCoalesced) := by decide

/-- Modules 0 and 32 are refused, 1 and 31 are gated in `flying` and latched in `up` and `busy`. -/
theorem witness_ReqCellLatchesLevelThree :
    ((0#8).toNat < 1 ∧ 31 < (32#8).toNat) ∧
    ([1#8, 31#8].all (fun m => (1 ≤ m.toNat ∧ m.toNat ≤ 31) ∧ flying.awCell.getLsbD m.toNat = true ∧
      up.awCell.getLsbD m.toNat = false ∧ busy.awCell.getLsbD m.toNat = false ∧
      reply (.reqCell ⟨m, 0xFF, 0⟩) flying = some (0, .eGated) ∧ reply (.reqCell ⟨m, 0xFF, 0⟩) up = some (0, .ok)) = true) ∧
    cold.link = false ∧ flying.link = true ∧ up.req.getLsbD 3 = false ∧ busy.req.getLsbD 3 = true := by decide

theorem witness_ReqStatusLatchesLevelFour :
    ((0#8).toNat < 1 ∧ 31 < (32#8).toNat) ∧
    ([1#8, 31#8].all (fun m => (1 ≤ m.toNat ∧ m.toNat ≤ 31) ∧ flying.awStatus.getLsbD m.toNat = true ∧
      up.awStatus.getLsbD m.toNat = false ∧ busy.awStatus.getLsbD m.toNat = false ∧
      reply (.reqStatus ⟨m, 0⟩) flying = some (0, .eGated) ∧ reply (.reqStatus ⟨m, 0⟩) up = some (0, .ok)) = true) ∧
    cold.link = false ∧ flying.link = true ∧ up.req.getLsbD 4 = false ∧ busy.req.getLsbD 4 = true := by decide

theorem witness_ReqRegackLatchesLevelFive :
    ((0#8).toNat < 1 ∧ 31 < (32#8).toNat) ∧ ([1#8, 31#8].all (fun m => 1 ≤ m.toNat ∧ m.toNat ≤ 31) = true) ∧
    cold.link = false ∧ (up.link = true ∧ up.req.getLsbD 5 = false) ∧
    (busy.link = true ∧ busy.req.getLsbD 5 = true) ∧ reply (.reqRegack ⟨31, 0⟩) busy = some (1, .okCoalesced) := by decide

/-- `ReqTimesyncLatchesLevelSix` and `ReqAnnounceLatchesLevelSeven`. -/
theorem witness_requests_six_and_seven :
    1#32 ≠ 0 ∧ cold.link = false ∧ (up.link = true ∧ up.req.getLsbD 6 = false ∧ up.req.getLsbD 7 = false) ∧
    (busy.link = true ∧ busy.req.getLsbD 6 = true ∧ busy.req.getLsbD 7 = true) := by decide

/-- The clauses of the tick: ill-formed, link down, idle, and for the highest, the gated and the lowest level a grant, a
drop and a retry. -/
theorem witness_ArbTickServesTheSelectedLevel :
    1#31 ≠ 0 ∧ cold.link = false ∧ up.link = true ∧ (∀ k ∈ allLevels, up.req.getLsbD k.num = false) ∧
    busy.link = true ∧ busy.req.getLsbD Level.stateChange.num = true ∧
    (∀ j ∈ allLevels, j.num < Level.stateChange.num → busy.req.getLsbD j.num = false) ∧
    asking.link = true ∧ asking.req.getLsbD Level.status.num = true ∧
    (∀ j ∈ allLevels, j.num < Level.status.num → asking.req.getLsbD j.num = false) ∧
    asking.cfg.getLsbD Level.status.num = false ∧
    ({ asking with cfg := 0x10 } : Regs).cfg.getLsbD Level.status.num = true ∧
    reply (.arbTick ⟨1, 0⟩) busy = some (0x00010305, .ok) ∧ reply (.arbTick ⟨0, 0⟩) asking = some (0x00040002, .eTxBusy) ∧
    reply (.arbTick ⟨0, 0⟩) { asking with cfg := 0x10 } = some (0x00040002, .txDropped) := by decide

/-- Every level is one of the seven, so the witnesses over `allLevels` are about every level. -/
theorem test_allLevels : ∀ k : Level, k ∈ allLevels := by
  intro k
  cases k <;> decide

/-- `AwaitClearReturnsTheOldBit` and `AwaitClearModuleClearsBothBits`: modules 0, 1, 31 and 32. -/
theorem witness_await_clear :
    ((0#8).toNat < 1 ∧ 31 < (32#8).toNat) ∧ ([1#8, 31#8].all (fun m => (1 ≤ m.toNat ∧ m.toNat ≤ 31) ∧
      reply (.awaitClrStatus ⟨m, 0⟩) flying = some (1, .ok) ∧ reply (.awaitClrModule ⟨m, 0⟩) flying = some (3, .ok)) = true) ∧
    reply (.awaitClrCell ⟨0, 0⟩) flying = some (0, .eBadArg) ∧
    reply (.awaitClrCell ⟨32, 0⟩) flying = some (0, .eBadArg) := by decide

/-- `LinkDownCancelsEverything` on a link already down, and both cases of `LinkUpActsOnTheChange`. -/
theorem witness_link : cold.Consistent ∧ cold.link = false ∧ busy.link = true ∧
    reply (.linkDown ⟨0⟩) cold = some (0, .ok) ∧ reply (.linkUp ⟨0⟩) busy = some (0, .ok) := by decide

/-- Both forms, and the reversed polynomial of R191. -/
theorem witness_CrcUpdateIsTheBitwiseLoop : defaultParams.crcReflect = false ∧
    ({ defaultParams with crcReflect := true } : Params).crcReflect = true ∧
    ∀ i, i < 16 → (0x8408#16).getLsbD i = defaultParams.crcPoly.getLsbD (15 - i) := by decide

/-- The operand `c` of `CrcWordFeedsFourBytesInOrder` exists for every state and operand: here "1234" from reset (R196). -/
theorem witness_CrcWordFeedsFourBytesInOrder : (0x5349#16 : Half) = crcUpdate defaultParams (crcUpdate defaultParams
    (crcUpdate defaultParams (crcUpdate defaultParams cold.crc 0x31) 0x32) 0x33) 0x34 := by decide +kernel

theorem witness_CrcCheckComparesTheFinalValue :
    cold.crc ^^^ defaultParams.crcXorOut = 0xFFFF#16 ∧ cold.crc ^^^ defaultParams.crcXorOut ≠ 0xFFFE#16 ∧ 1#16 ≠ 0 := by
  decide

theorem witness_XorReadAndCheckFollowTheRule : cold.xsum ≠ 0x01#8 ∧ cold.xsum ≠ 0xFF#8 ∧ cold.xsum = 0x00#8 := by decide

theorem witness_EncodeOfDecodeIsTheWord : decode 0xFFFFFFFFFF#40 = .error (.illegalOp 0xFF) ∧
    decode 0x3CFFFFFFFF#40 = .ok (.xorCheck ⟨0xFF, 0xFFFFFF⟩) := ⟨rfl, rfl⟩

/-- Both ends of every range of R75, and the legal codes beside them. -/
theorem witness_IllegalOpIsAnsweredAndChangesNothing :
    (∀ op ∈ [0x03#8, 0x0E#8, 0x13#8, 0x18#8, 0x20#8, 0x2E#8, 0x2F#8, 0x36#8, 0x37#8, 0x3D#8, 0xFF#8],
      stepped (machine busy [(op ++ 7#32 : BitVec (8 + 32))]) = some (busy, [⟨0, .eIllegalOp⟩])) ∧
    (∀ op ∈ [0x02#8, 0x0F#8, 0x12#8, 0x14#8, 0x17#8, 0x21#8, 0x2D#8, 0x30#8, 0x35#8, 0x38#8, 0x3C#8],
      (opcodeMap.find? (fun row => row.op == op)).isSome = true) := by decide

theorem witness_StepRunsTheDecodedCommand :
    (machine up [0x2800000001#40]).pending = 0x2800000001#40 :: [] ∧
    decode 0x2800000001#40 = .ok (.arbTick ⟨1, 0⟩) ∧ (machine up).pending = [] := ⟨rfl, rfl, rfl⟩

/-- `EveryCommandIsAnsweredOnce`, and a refused one for `RefusedCommandChangesNoRegister`: `REQ_STATUS 2` with the link
down, a busy tick and the two mismatches. -/
theorem witness_RefusedCommandChangesNoRegister :
    stepped (machine cold [0x2400000002#40]) = some (cold, [⟨0, .eLinkDown⟩]) ∧
    stepped (machine asking [0x2800000000#40]) = some (asking, [⟨0x00040002, .eTxBusy⟩]) ∧
    stepped (machine cold [0x3500000000#40]) = some (cold, [⟨0x20, .eBadCrc⟩]) ∧
    stepped (machine cold [0x3C00000001#40]) = some (cold, [⟨1, .eBadChecksum⟩]) ∧
    [Status.eLinkDown, .eTxBusy, .eBadCrc, .eBadChecksum].all Status.isError = true := by decide

theorem witness_EachCommandReturnsItsListedStatuses :
    (∃ t resp, exec (.arbTick ⟨1, 0⟩) (machine asking) = .next t ∧ t.responses = (machine asking).responses ++ [resp]) ∧
    ∃ t resp, (machine up [0x1300000000#40]).pending = 0x1300000000#40 :: [] ∧
      (∀ i : Instr, decode 0x1300000000#40 ≠ .ok i) ∧ step (machine up [0x1300000000#40]) = .next t ∧
      t.responses = (machine up [0x1300000000#40]).responses ++ [resp] :=
  ⟨⟨_, ⟨0x00040002, .ok⟩, rfl, rfl⟩, _, ⟨0, .eIllegalOp⟩, rfl, (fun _ h => by cases h), rfl, rfl⟩

/-- A tick changes `REQ` and `AW_STATUS` and leaves `PARAM[4]`, which its rule does not name. -/
theorem witness_CommandsWriteOnlyTheirListedRegisters :
    (∃ t, exec (.arbTick ⟨1, 0⟩) (machine asking) = .next t) ∧
    RegName.param .status ∉ stateWritten (.arbTick ⟨1, 0⟩) ∧ RegName.cfg ∉ stateWritten (.linkDown ⟨0⟩) :=
  ⟨⟨_, rfl⟩, by decide, by decide⟩

/-- R208 (f): a command of U3 and one outside it that is no `SOFT_RESET`, both performed. -/
theorem witness_units : unitOf (.xorByte ⟨1, 0⟩) = .checksum ∧ unitOf (.linkDown ⟨0⟩) ≠ .checksum ∧
    (∀ a : ArgZ, Instr.linkDown ⟨0⟩ ≠ .softReset a) ∧ (∃ t, exec (.xorByte ⟨1, 0⟩) (machine busy) = .next t) ∧
    ∃ t, exec (.linkDown ⟨0⟩) (machine busy) = .next t :=
  ⟨rfl, by decide, (fun _ h => by cases h), ⟨_, rfl⟩, _, rfl⟩

/-- `StepKeepsConsistent`: every level requested and the modules 1 and 31 in flight; the step grants. -/
theorem witness_StepKeepsConsistent :
    ({ busy with awStatus := 0x80000002, awCell := 0x80000002 } : Regs).Consistent ∧
    ∃ t, step (machine busy [0x2800000001#40]) = .next t := ⟨by decide, _, rfl⟩

/-- `AtMostOneStatusRequestOutstanding`: a run that grants level 4 for module 2 once, asks again and is gated. -/
theorem witness_AtMostOneStatusRequestOutstanding :
    let s := machine asking [0x2800000001#40, 0x2400000002#40, 0x2800000001#40]
    s.regs.Consistent ∧ (∀ e ∈ trace 3 s, e.clearsStatus 2 = false) ∧
      ((trace 3 s).filter (fun e => e.grantsStatus 2)).length = 1 := by decide

/-- With a clear between them two grants are made: the hypothesis on clears is needed. -/
theorem witness_clear_allows_a_second_grant :
    let s := machine asking [0x2800000001#40, 0x2900000002#40, 0x2400000002#40, 0x2800000001#40]
    ((trace 4 s).filter (fun e => e.grantsStatus 2)).length = 2 := by decide

/-- `ReachableStatesSatisfyTheInvariant`: the host presents `LINK_UP` and the block executes it. -/
theorem witness_ReachableStatesSatisfyTheInvariant :
    ∃ t, Reachable defaultParams t ∧ t.regs = { up with req := 0x80 } ∧ (∀ e ∈ trace 5 t, e.clearsStatus 1 = false) :=
  ⟨_, .step _ _ (.present 0x2D00000000#40 _ .reset) rfl, rfl, by decide⟩

/-- `IdentifierRoundTrips`: the edges of the sets, and an identifier with and without middle bits. -/
theorem witness_IdentifierRoundTrips :
    ([0x500#11, 0x51F#11, 0x3F0#11, 0x3F3#11].all (fun b =>
      (0x500 ≤ b.toNat ∧ b.toNat ≤ 0x51F) ∨ (0x3F0 ≤ b.toNat ∧ b.toNat ≤ 0x3F3)) = true) ∧
    ((0x140000FF#32).extractLsb' 18 11 = 0x500#11 ∧ (0x140000FF#32).extractLsb' 8 10 = 0) ∧
    ((0x140001FF#32).extractLsb' 18 11 = 0x500#11 ∧ (0x140001FF#32).extractLsb' 8 10 ≠ 0) ∧
    ((0xEFC6A803#32).extractLsb' 18 11 = 0x3F1#11 ∧ (0xEFC6A803#32).getLsbD 17 = true) ∧
    (0x101C0800#32).extractLsb' 18 11 = 0x407#11 := by decide

/-- `EncodersAreInjective`: an accepted operand of each encoder. -/
theorem witness_EncodersAreInjective :
    exec (.encStd ⟨0x01, 0x510, 0⟩) (machine up) = .next ((machine up).answered up 0x14400001 .ok) ∧
    exec (.encSd ⟨3, 0, 5, 2, 0, 0⟩) (machine up) = .next ((machine up).answered up 0x0FC69403 .ok) ∧
    exec (.encKey ⟨0, 7, 0x407, 0⟩) (machine up) = .next ((machine up).answered up 0x101C0700 .ok) := ⟨rfl, rfl, rfl⟩

/-- `TickLowersThePendingCountByOne` and `SevenTicksEmptyTheRequests`: all seven flags set. -/
theorem witness_SevenTicksEmptyTheRequests :
    busy.link = true ∧ (∀ k ∈ allLevels, busy.req.getLsbD k.num = true) ∧ pendingCount busy.req = 7 ∧
    (machine busy (List.replicate 7 0x2800000001#40)).pending = List.replicate 7 0x2800000001#40 ++ [] := by decide

/-- `HigherLevelIsServedFirst`: levels 1 and 7 are both set, and the tick answers. -/
theorem witness_HigherLevelIsServedFirst :
    Level.stateChange.num < Level.announce.num ∧ busy.req.getLsbD Level.stateChange.num = true ∧
    busy.req.getLsbD Level.announce.num = true ∧ ∃ t, exec (.arbTick ⟨1, 0⟩) (machine busy) = .next t :=
  ⟨by decide, by decide, by decide, _, rfl⟩

/-- `SetFlagIsClearedOnlyByItsOwnService`: a grant clears the flag of level 4 in a consistent state. -/
theorem witness_SetFlagIsClearedOnlyByItsOwnService :
    asking.Consistent ∧ asking.req.getLsbD Level.status.num = true ∧
    ∃ t, exec (.arbTick ⟨1, 0⟩) (machine asking) = .next t ∧ t.regs.req.getLsbD Level.status.num = false :=
  ⟨by decide, by decide, _, rfl, by decide⟩

/-- `InFlightBitIsSetOnlyByAGrant`: a grant of level 4 for module 2 and one of level 3 for module 31. -/
theorem witness_InFlightBitIsSetOnlyByAGrant :
    (asking.awStatus.getLsbD 2 = false ∧ ∃ t, exec (.arbTick ⟨1, 0⟩) (machine asking) = .next t ∧
      t.regs.awStatus.getLsbD 2 = true) ∧
    ∃ t, exec (.arbTick ⟨1, 0⟩) (machine { up with req := 8, param3 := 0x001F }) = .next t ∧
      up.awCell.getLsbD 31 = false ∧ t.regs.awCell.getLsbD 31 = true :=
  ⟨⟨by decide, _, rfl, by decide⟩, _, rfl, by decide, by decide⟩

/-- The hypotheses of the checksum laws: a polynomial with bit 0 set, three sequences of one length, the first and the
last bit of a byte, and two orders of one sequence. -/
theorem witness_checksum_laws :
    defaultParams.crcPoly.getLsbD 0 = true ∧ [1#8, 2#8].length = [3#8, 4#8].length ∧ (0 < 8 ∧ 7 < 8) ∧
    [1#8, 2#8, 3#8].Perm [3#8, 1#8, 2#8] := by decide

end Sys2Proof.Tests
end

/-! PROOFS of the statements on one step (spec/00_scope.md). First what the step does in each state of the command port,
then that every command answers exactly once. -/

namespace Sys2Proof.Proofs

open Sys2Proof.Machine Sys2Proof.Laws

/-! ### The step -/

theorem step_of_pending_nil {s : State} (h : s.pending = []) : step s = .next s := by
  simp only [step, takeCommand_nil h, idle]

theorem step_of_decode_ok {s : State} {cw : CmdWord} {rest : List CmdWord} {i : Instr}
    (hp : s.pending = cw :: rest) (hd : decode cw = .ok i) : step s = exec i { s with pending := rest } := by
  simp only [step, takeCommand_cons hp, hd]

theorem step_of_decode_error {s : State} {cw : CmdWord} {rest : List CmdWord} {why : DecodeError}
    (hp : s.pending = cw :: rest) (hd : decode cw = .error why) :
    step s = .next (State.answered { s with pending := rest } s.regs 0 .eIllegalOp) := by
  simp only [step, takeCommand_cons hp, hd, illegalCommand, refuse_eq]

/-- Settles O39, by the equations of `step` for a word that decodes and for the empty port. -/
theorem stepRunsTheDecodedCommand : Obligations.StepRunsTheDecodedCommand :=
  ⟨fun _ _ _ _ => step_of_decode_ok, fun _ => step_of_pending_nil⟩

/-! ### Every command answers once -/

/-- The outcome `o` of a command begun in `s` is a next state with one more response, whatever the registers: the
configuration and the words still at the port are those of `s` (R13, R53, R254). -/
def AnswersOnce (s : State) (o : Result) : Prop :=
  ∃ (r : Regs) (res : Word) (st : Status), o = .next (s.answered r res st)

theorem AnswersOnce.respond {s : State} {r : Regs} {res : Word} {st : Status} :
    AnswersOnce s (respond s r res st) := ⟨r, res, st, rfl⟩

theorem AnswersOnce.refuse {s : State} {st : Status} {info : Word} : AnswersOnce s (refuse s st info) :=
  ⟨s.regs, info, st, rfl⟩

theorem AnswersOnce.ite {c : Prop} [Decidable c] {s : State} {x y : Result} (hx : AnswersOnce s x)
    (hy : AnswersOnce s y) : AnswersOnce s (if c then x else y) := by
  split
  · exact hx
  · exact hy

/-- The three refusals of R143, then the latch. -/
theorem AnswersOnce.request {k : Level} {bad gated : Bool} {v : Half} {s : State} :
    AnswersOnce s (request k bad gated v s) :=
  .ite .refuse (.ite .refuse (.ite .refuse (.ite .respond .respond)))

theorem AnswersOnce.csrRead (a : ArgCR) (s : State) : AnswersOnce s (execCsrRead a s) := by
  refine .ite .refuse ?_
  cases csrValue s.regs a.index with
  | some v => exact .respond
  | none => exact .refuse

theorem AnswersOnce.arbTick (a : ArgT) (s : State) : AnswersOnce s (execArbTick a s) := by
  refine .ite .refuse (.ite .refuse ?_)
  cases sel s.regs.req with
  | none => exact .respond
  | some k => exact .ite .respond (.ite .respond .refuse)

/-- The commands are grouped by the checks that stand before their `respond`. -/
theorem exec_answersOnce (i : Instr) (s : State) : AnswersOnce s (exec i s) := by
  cases i with
  | crcWord a | xorWord a => exact .respond
  | nop a | softReset a | encStd a | encSd a | midClass a | awaitClrStatus a | awaitClrCell a | awaitClrModule a
  | linkDown a | crcInit a | crcLoad a | crcByte a | crcRead a | xorInit a | xorByte a | xorRead a | decKey a =>
    exact .ite .refuse .respond
  | csrWrite a | encKey a | decSd a => exact .ite .refuse (.ite .refuse .respond)
  | crcCheck a | xorCheck a => exact .ite .refuse (.ite .respond .refuse)
  | decStd a => exact .ite .respond (.ite .respond .refuse)
  | linkUp a => exact .ite .refuse (.ite .respond .respond)
  | csrRead a => exact .csrRead a s
  | arbTick a => exact .arbTick a s
  | reqState a | reqHeartbeat a | reqCell a | reqStatus a | reqRegack a | reqTimesync a | reqAnnounce a =>
    exact .request

/-- The step on a presented word answers once from the machine that has taken the word, decoded or not. -/
theorem step_answersOnce {s : State} {cw : CmdWord} {rest : List CmdWord} (hp : s.pending = cw :: rest) :
    AnswersOnce { s with pending := rest } (step s) := by
  cases hd : decode cw with
  | ok i =>
    rw [step_of_decode_ok hp hd]
    exact exec_answersOnce i _
  | error why => exact ⟨s.regs, 0, .eIllegalOp, step_of_decode_error hp hd⟩

/-- Settles O40, by `step_answersOnce` with `State.answered` written out. -/
theorem everyCommandIsAnsweredOnce : Obligations.EveryCommandIsAnsweredOnce := by
  intro s cw rest hp
  obtain ⟨r, res, st, hs⟩ := step_answersOnce hp
  exact ⟨r, ⟨res, st⟩, hs⟩

end Sys2Proof.Proofs

/-! PROOFS of the statements on the state (spec/10_state.md R20 to R36). First R34 (a) to (d) as one condition per
requested level and the operations that keep it, then what a command can do to the arbiter's registers, and from the two
the invariant, the in-flight bits and the property P2. -/

namespace Sys2Proof.Proofs

open Sys2Proof.Machine Sys2Proof.Laws

/-! ### Two fields side by side -/

/-- Two fields side by side, read as a number. -/
theorem toNat_shiftLeft_or {n : Nat} (x y : BitVec n) (k : Nat) (hx : x.toNat * 2 ^ k < 2 ^ n)
    (hy : y.toNat < 2 ^ k) : (x <<< k ||| y).toNat = x.toNat * 2 ^ k + y.toNat := by
  rw [BitVec.toNat_or, BitVec.toNat_shiftLeft, Nat.shiftLeft_eq, Nat.mod_eq_of_lt hx, ← Nat.shiftLeft_eq,
    Nat.shiftLeft_add_eq_or_of_lt hy]

theorem stateOperand_toNat (a : ArgRS) : (stateOperand a).toNat = a.state.toNat * 256 + a.target.toNat := by
  have hs := a.state.isLt
  have ht := a.target.isLt
  rw [stateOperand, toNat_shiftLeft_or] <;> simp <;> omega

theorem cellOperand_toNat (a : ArgRC) : (cellOperand a).toNat = a.cell.toNat * 256 + a.moduleId.toNat := by
  have hc := a.cell.isLt
  have hm := a.moduleId.isLt
  rw [cellOperand, toNat_shiftLeft_or] <;> simp <;> omega

theorem byteOperand_toNat (a : ArgB) : (byteOperand a).toNat = a.v.toNat := by
  have := a.v.isLt
  simp [byteOperand]; omega

theorem grantWord_toNat (r : Regs) (k : Level) : (grantWord r k).toNat = k.num * 65536 + (r.param k).toNat := by
  have hk := level_num_bounds k
  have hp := (r.param k).isLt
  rw [grantWord, toNat_shiftLeft_or] <;> simp <;> omega

theorem lowByte_toNat (p : Half) : (lowByte p).toNat = p.toNat % 256 := by
  simp [lowByte]

theorem lowByte_cellOperand (a : ArgRC) : lowByte (cellOperand a) = a.moduleId :=
  BitVec.eq_of_toNat_eq (by rw [lowByte_toNat, cellOperand_toNat]; omega)

theorem lowByte_byteOperand (a : ArgB) : lowByte (byteOperand a) = a.v :=
  BitVec.eq_of_toNat_eq (by rw [lowByte_toNat, byteOperand_toNat]; omega)

/-- A grant of level 4 whose response names `m` was made with `m` in `PARAM[4]`. -/
theorem grantWord_eq_status {r : Regs} {k : Level} {m : Byte}
    (h : grantWord r k = 0x00040000#32 ||| m.setWidth 32) : k = .status ∧ r.param4.toNat = m.toNat := by
  have hm := m.isLt
  have hw : (0x00040000#32 ||| m.setWidth 32).toNat = 4 * 65536 + m.toNat := by
    rw [show 0x00040000#32 = 4#32 <<< 16 from rfl, toNat_shiftLeft_or] <;> simp <;> omega
  have hp := (r.param k).isLt
  have hsum : k.num * 65536 + (r.param k).toNat = 4 * 65536 + m.toNat := by rw [← grantWord_toNat, h, hw]
  obtain rfl : k = .status := level_num_injective (show k.num = 4 by omega)
  exact ⟨rfl, show (r.param .status).toNat = m.toNat by simp only [Level.num] at hsum; omega⟩

/-! ### Setting one bit -/

theorem getLsbD_setBit_ne {n i j : Nat} (w : BitVec n) (h : j ≠ i) : (setBit w i).getLsbD j = w.getLsbD j := by
  simp [h]

theorem eq_of_getLsbD_setBit {n i j : Nat} {w : BitVec n} (h0 : w.getLsbD j = false)
    (h1 : (setBit w i).getLsbD j = true) : j = i :=
  Decidable.byContradiction fun hne => by simp [getLsbD_setBit_ne w hne, h0] at h1

/-! ### A register whose set bits are all set in another -/

theorem getLsbD_false_of_fewer {n i : Nat} {x y : BitVec n} (h : ∀ i, x.getLsbD i = true → y.getLsbD i = true)
    (hy : y.getLsbD i = false) : x.getLsbD i = false :=
  Bool.eq_false_of_not_eq_true fun hx => Bool.false_ne_true (hy.symm.trans (h i hx))

theorem eq_zero_of_fewer {n : Nat} {x y : BitVec n} (h : ∀ i, x.getLsbD i = true → y.getLsbD i = true)
    (hy : y = 0) : x = 0 :=
  BitVec.eq_of_getLsbD_eq fun i _ => (getLsbD_false_of_fewer h (by simp [hy])).trans (by simp)

/-! ### R34 (a) to (d), one condition per requested level -/

/-- The gate of R144: the module that `v` names has its in-flight bit set. Only the levels 3 and 4 are gated. -/
def gated (r : Regs) (k : Level) (v : Half) : Bool :=
  match k with
  | .cellDetail => r.awaitingCell (lowByte v)
  | .status => r.awaitingStatus (lowByte v)
  | _ => false

/-- What R34 (c) and (d) ask of `PARAM[k] = v` while `REQ[k] = 1`. -/
def MayLatch (r : Regs) (k : Level) (v : Half) : Prop := operandOk k v = true ∧ gated r k v = false

/-- R34 with (c) and (d) put together level by level. -/
theorem consistent_iff (r : Regs) :
    r.Consistent ↔ r.BitZeroClear ∧ r.QuietWhenDown ∧ ∀ k, r.requested k = true → MayLatch r k (r.param k) := by
  constructor
  · rintro ⟨hzero, hquiet, ⟨hstatus, hcell⟩, hok⟩
    refine ⟨hzero, hquiet, fun k hk => ⟨hok k (by cases k <;> decide) hk, ?_⟩⟩
    cases k with
    | status => exact hstatus hk
    | cellDetail => exact hcell hk
    | _ => rfl
  · rintro ⟨hzero, hquiet, hlatch⟩
    exact ⟨hzero, hquiet, ⟨fun h => (hlatch .status h).2, fun h => (hlatch .cellDetail h).2⟩,
      fun k _ h => (hlatch k h).1⟩

/-- With fewer bits in flight a latched operand stays allowed. -/
theorem MayLatch.of_fewer {r r' : Regs} {k : Level} {v : Half} (h : MayLatch r k v)
    (hs : ∀ i, r'.awStatus.getLsbD i = true → r.awStatus.getLsbD i = true)
    (hc : ∀ i, r'.awCell.getLsbD i = true → r.awCell.getLsbD i = true) : MayLatch r' k v := by
  refine ⟨h.1, ?_⟩
  cases k with
  | status => exact getLsbD_false_of_fewer hs h.2
  | cellDetail => exact getLsbD_false_of_fewer hc h.2
  | _ => rfl

/-! ### The operations that keep R34 (a) to (d) -/

/-- With nothing requested and nothing in flight all four hold, whatever the link. -/
theorem consistent_of_quiet {r : Regs} (hreq : r.req = 0) (hs : r.awStatus = 0) (hc : r.awCell = 0) :
    r.Consistent := by
  refine (consistent_iff r).2 ⟨?_, fun _ => ⟨hreq, hs, hc⟩, fun k hk => ?_⟩
  · rw [Regs.BitZeroClear, hreq, hs, hc]
    decide
  · simp [Regs.requested, hreq] at hk

/-- Bits of `REQ`, `AW_STATUS` and `AW_CELL` may be cleared. -/
theorem consistent_of_fewer {r r' : Regs} (h : r.Consistent) (hlink : r'.link = r.link)
    (hparam : ∀ k, r'.param k = r.param k) (hreq : ∀ i, r'.req.getLsbD i = true → r.req.getLsbD i = true)
    (hs : ∀ i, r'.awStatus.getLsbD i = true → r.awStatus.getLsbD i = true)
    (hc : ∀ i, r'.awCell.getLsbD i = true → r.awCell.getLsbD i = true) : r'.Consistent := by
  obtain ⟨⟨hreq0, hs0, hc0⟩, hquiet, hlatch⟩ := (consistent_iff r).1 h
  refine (consistent_iff r').2 ⟨⟨getLsbD_false_of_fewer hreq hreq0, getLsbD_false_of_fewer hs hs0,
    getLsbD_false_of_fewer hc hc0⟩, fun hdown => ?_, fun k hk => ?_⟩
  · obtain ⟨hreqD, hsD, hcD⟩ := hquiet (hlink ▸ hdown)
    exact ⟨eq_zero_of_fewer hreq hreqD, eq_zero_of_fewer hs hsD, eq_zero_of_fewer hc hcD⟩
  · rw [hparam]
    exact (hlatch k (hreq _ hk)).of_fewer hs hc

/-- R143: with the link up an allowed operand may be latched, over an older one too. -/
theorem consistent_latch {r : Regs} {k : Level} {v : Half} (h : r.Consistent) (hlink : r.link = true)
    (hv : MayLatch r k v) : ((r.setReq k).setParam k v).Consistent := by
  obtain ⟨⟨hreq0, hs0, hc0⟩, -, hlatch⟩ := (consistent_iff r).1 h
  refine (consistent_iff _).2 ⟨⟨?_, by rwa [setParam_awStatus], by rwa [setParam_awCell]⟩, fun hdown => ?_,
    fun j hj => ?_⟩
  · have h0 : 0 ≠ k.num := by have := level_num_bounds k; omega
    simp only [setParam_req, setReq_req, getLsbD_setBit, hreq0, h0, decide_false, Bool.false_and, Bool.or_false]
  · simp [hlink] at hdown
  · by_cases hjk : j = k
    · subst hjk
      rw [setParam_param_self]
      exact hv.of_fewer (by simp) (by simp)
    · have hne : j.num ≠ k.num := fun e => hjk (level_num_injective e)
      rw [setParam_param_ne _ _ _ _ hjk, setReq_param]
      exact (hlatch j (by simpa [Regs.requested, hne] using hj)).of_fewer (by simp) (by simp)

theorem consistent_clearReq {r : Regs} (h : r.Consistent) (k : Level) : (r.clearReq k).Consistent :=
  consistent_of_fewer h rfl (by simp) (by simp +contextual) (by simp) (by simp)

theorem consistent_clearAwaitStatus {r : Regs} (h : r.Consistent) (m : Byte) : (r.clearAwaitStatus m).Consistent :=
  consistent_of_fewer h rfl (by simp) (by simp) (by simp +contextual) (by simp)

theorem consistent_clearAwaitCell {r : Regs} (h : r.Consistent) (m : Byte) : (r.clearAwaitCell m).Consistent :=
  consistent_of_fewer h rfl (by simp) (by simp) (by simp) (by simp +contextual)

/-- R34 (d) for the two gated levels: the module named is one of 1 to 31. -/
theorem lowByte_bounds_of_operandOk {k : Level} {v : Half} (h : operandOk k v = true)
    (hk : k = .status ∨ k = .cellDetail) : 1 ≤ (lowByte v).toNat ∧ (lowByte v).toNat ≤ 31 := by
  rw [lowByte_toNat]
  rcases hk with rfl | rfl
  · obtain ⟨h1, h31⟩ : 1 ≤ v.toNat ∧ v.toNat ≤ 31 := by
      simpa only [operandOk, Bool.and_eq_true, decide_eq_true_eq] using h
    omega
  · simpa only [operandOk, Bool.and_eq_true, decide_eq_true_eq] using h

/-- R154: the module of a granted request is marked only when the request itself is gone. -/
theorem consistent_grant {r : Regs} {k : Level} (h : r.Consistent) (hlink : r.link = true)
    (hk : r.requested k = true) : (grantRegs r k).Consistent := by
  obtain ⟨⟨hreq0, hs0, hc0⟩, -, hlatch⟩ := (consistent_iff r).1 h
  have hmodule := lowByte_bounds_of_operandOk (hlatch k hk).1
  refine (consistent_iff _).2 ⟨⟨?_, ?_, ?_⟩, fun hdown => ?_, fun j hj => ?_⟩
  · rw [grantRegs_req, getLsbD_clearBit, hreq0, Bool.false_and]
  · rw [grantRegs_awStatus]
    split
    · subst k
      rwa [getLsbD_setBit_ne _ (Nat.ne_of_lt (show 0 < (lowByte r.param4).toNat from (hmodule (.inl rfl)).1))]
    · exact hs0
  · rw [grantRegs_awCell]
    split
    · subst k
      rwa [getLsbD_setBit_ne _ (Nat.ne_of_lt (show 0 < (lowByte r.param3).toNat from (hmodule (.inr rfl)).1))]
    · exact hc0
  · simp [hlink] at hdown
  · obtain ⟨hjr, hjk⟩ : r.requested j = true ∧ j.num ≠ k.num := by simpa [Regs.requested] using hj
    rw [grantRegs_param]
    refine ⟨(hlatch j hjr).1, ?_⟩
    have hgate := (hlatch j hjr).2
    cases j with
    | status =>
      rw [gated, Regs.awaitingStatus, grantRegs_awStatus, if_neg (by rintro rfl; exact hjk rfl)]
      exact hgate
    | cellDetail =>
      rw [gated, Regs.awaitingCell, grantRegs_awCell, if_neg (by rintro rfl; exact hjk rfl)]
      exact hgate
    | _ => rfl

/-- R161: on the change from 0 to 1 everything is cleared and a fresh announce request is latched. -/
theorem consistent_linkUp (r : Regs) :
    ({ r with link := true, awStatus := 0, awCell := 0, req := 0x80#8, param7 := 0 } : Regs).Consistent := by
  rw [← show setBit (0 : Byte) Level.announce.num = 0x80#8 by decide]
  exact consistent_latch (r := { r with link := true, awStatus := 0, awCell := 0, req := 0 }) (k := .announce) (v := 0)
    (consistent_of_quiet rfl rfl rfl) rfl ⟨rfl, rfl⟩

/-! ### What a command can do to the arbiter's registers -/

/-- `ArbEffect s i t`: what `i` may do to `REQ`, `PARAM`, `AW_STATUS`, `AW_CELL` and `LINK` on the way from `s` to `t`.
Every refusal and every command of the other units is `same`. -/
inductive ArbEffect (s : State) : Instr → State → Prop where
  | same {i : Instr} {cfg : Byte} {crc : Half} {xsum : Byte} {res : Word} {st : Status} :
      ArbEffect s i (s.answered { s.regs with cfg := cfg, crc := crc, xsum := xsum } res st)
  | softReset : ArbEffect s (.softReset ⟨0⟩) (s.answered (Regs.reset s.params) 0 .ok)
  | latch {i : Instr} {k : Level} {v : Half} {res : Word} {st : Status} (hlink : s.regs.link = true)
      (hv : MayLatch s.regs k v) : ArbEffect s i (s.answered ((s.regs.setReq k).setParam k v) res st)
  | grant {k : Level} (hlink : s.regs.link = true) (hk : sel s.regs.req = some k) :
      ArbEffect s (.arbTick ⟨1, 0⟩) (s.answered (grantRegs s.regs k) (grantWord s.regs k) .ok)
  | drop {a : ArgT} {k : Level} :
      ArbEffect s (.arbTick a) (s.answered (s.regs.clearReq k) (grantWord s.regs k) .txDropped)
  | clrStatus {v : Byte} {res : Word} :
      ArbEffect s (.awaitClrStatus ⟨v, 0⟩) (s.answered (s.regs.clearAwaitStatus v) res .ok)
  | clrCell {v : Byte} {res : Word} :
      ArbEffect s (.awaitClrCell ⟨v, 0⟩) (s.answered (s.regs.clearAwaitCell v) res .ok)
  | clrModule {v : Byte} {res : Word} :
      ArbEffect s (.awaitClrModule ⟨v, 0⟩) (s.answered ((s.regs.clearAwaitStatus v).clearAwaitCell v) res .ok)
  | linkDown {res : Word} :
      ArbEffect s (.linkDown ⟨0⟩)
        (s.answered { s.regs with link := false, req := 0, awStatus := 0, awCell := 0 } res .ok)
  | linkUp (hdown : s.regs.link = false) :
      ArbEffect s (.linkUp ⟨0⟩)
        (s.answered { s.regs with link := true, awStatus := 0, awCell := 0, req := 0x80#8, param7 := 0 } 1 .ok)

/-- Whatever state the outcome `o` of `i` is, it is one that `i` may reach from `s`. -/
def HasArbEffect (i : Instr) (s : State) (o : Result) : Prop := ∀ t, o = .next t → ArbEffect s i t

theorem HasArbEffect.respond {i : Instr} {s : State} {r : Regs} {res : Word} {st : Status}
    (h : ArbEffect s i (s.answered r res st)) : HasArbEffect i s (respond s r res st) :=
  fun _ ht => respond_next ht ▸ h

theorem HasArbEffect.refuse {i : Instr} {s : State} {st : Status} {info : Word} :
    HasArbEffect i s (refuse s st info) := .respond .same

/-- A command that is performed and leaves the arbiter's registers alone. -/
theorem HasArbEffect.other {i : Instr} {s : State} {cfg : Byte} {crc : Half} {xsum : Byte} {res : Word} {st : Status} :
    HasArbEffect i s (Machine.respond s { s.regs with cfg := cfg, crc := crc, xsum := xsum } res st) := .respond .same

theorem HasArbEffect.ite {c : Prop} [Decidable c] {i : Instr} {s : State} {x y : Result}
    (hx : c → HasArbEffect i s x) (hy : ¬c → HasArbEffect i s y) : HasArbEffect i s (if c then x else y) := by
  split
  · exact hx ‹_›
  · exact hy ‹_›

/-- A command that checks its must-be-zero bits first and is refused when one is set. -/
theorem HasArbEffect.mbz {i : Instr} {s : State} {n : Nat} {bits : BitVec n} {info : Word} {st : Status} {o : Result}
    (h : bits = 0 → HasArbEffect i s o) :
    HasArbEffect i s (if mbzSet bits then Machine.refuse s st info else o) :=
  .ite (fun _ => .refuse) fun hc => h ((mbzSet_eq_false_iff bits).1 (Bool.eq_false_of_not_eq_true hc))

/-- The same where the operand check stands in the same test. -/
theorem HasArbEffect.mbzOr {i : Instr} {s : State} {n : Nat} {bits : BitVec n} {bad : Bool} {info : Word} {st : Status}
    {o : Result} (h : bits = 0 → HasArbEffect i s o) :
    HasArbEffect i s (if mbzSet bits || bad then Machine.refuse s st info else o) :=
  .ite (fun _ => .refuse) fun hc =>
    h ((mbzSet_eq_false_iff bits).1 (Bool.or_eq_false_iff.1 (Bool.eq_false_of_not_eq_true hc)).1)

/-- R143: a request whose operand check and gate are those of its level latches only what R34 allows. -/
theorem HasArbEffect.request {i : Instr} {s : State} {k : Level} {bad : Bool} {g : Bool} {v : Half}
    (hok : bad = false → operandOk k v = true) (hgate : gated s.regs k v = g) :
    HasArbEffect i s (request k bad g v s) := by
  intro t ht
  obtain ⟨-, rfl⟩ | ⟨-, -, rfl⟩ | ⟨-, -, -, rfl⟩ | ⟨hbad, hlink, hg, -, rfl⟩ | ⟨hbad, hlink, hg, -, rfl⟩ :=
    request_next ht
  · exact .same
  · exact .same
  · exact .same
  · exact .latch hlink ⟨hok hbad, hgate.trans hg⟩
  · exact .latch hlink ⟨hok hbad, hgate.trans hg⟩

/-- R154: what a tick can do. Only a grant answers `OK`. -/
theorem arbTick_next {a : ArgT} {s t : State} (h : exec (.arbTick a) s = .next t) :
    (∃ res st, st ≠ .ok ∧ t = s.answered s.regs res st) ∨
    (∃ k, a = ⟨1, 0⟩ ∧ s.regs.link = true ∧ sel s.regs.req = some k ∧
      t = s.answered (grantRegs s.regs k) (grantWord s.regs k) .ok) ∨
    ∃ k, t = s.answered (s.regs.clearReq k) (grantWord s.regs k) .txDropped := by
  rw [exec, execArbTick] at h
  split at h
  · exact .inl ⟨_, _, by decide, refuse_next h⟩
  next hmbz =>
  split at h
  · exact .inl ⟨_, _, by decide, refuse_next h⟩
  next hlink =>
  split at h
  · exact .inl ⟨_, _, by decide, respond_next h⟩
  next k hsel =>
  split at h
  next hready =>
    obtain ⟨ready, mbz⟩ := a
    obtain rfl : ready = 1 := by simpa using hready
    obtain rfl : mbz = 0 := by simpa [mbzSet] using hmbz
    exact .inr (.inl ⟨k, rfl, by simpa using hlink, hsel, respond_next h⟩)
  · split at h
    · exact .inr (.inr ⟨k, respond_next h⟩)
    · exact .inl ⟨_, _, by decide, refuse_next h⟩

theorem HasArbEffect.arbTick (a : ArgT) (s : State) : HasArbEffect (.arbTick a) s (exec (.arbTick a) s) := by
  intro t ht
  obtain ⟨res, st, -, rfl⟩ | ⟨k, rfl, hlink, hk, rfl⟩ | ⟨k, rfl⟩ := arbTick_next ht
  · exact .same
  · exact .grant hlink hk
  · exact .drop

theorem HasArbEffect.csrRead (a : ArgCR) (s : State) : HasArbEffect (.csrRead a) s (exec (.csrRead a) s) := by
  refine .mbz fun _ => ?_
  cases csrValue s.regs a.index with
  | some v => exact .other
  | none => exact .refuse

/-! ### The operand check of each request is that of its level (R34 (d)) -/

theorem operandOk_stateOperand (a : ArgRS) (h : (mbzSet a.mbz || badTarget a.target) = false) :
    operandOk .stateChange (stateOperand a) = true := by
  have hs := a.state.isLt
  obtain ⟨-, ht⟩ : a.mbz = 0 ∧ a.target.toNat ≤ 0x1F := by simpa [mbzSet, badTarget] using h
  simp only [operandOk, stateOperand_toNat, Bool.and_eq_true, decide_eq_true_eq]
  omega

theorem operandOk_heartbeat (a : ArgB) (h : (mbzSet a.mbz || badMaxState a.v) = false) :
    operandOk .heartbeat (byteOperand a) = true := by
  obtain ⟨-, hv⟩ : a.mbz = 0 ∧ a.v.toNat ≤ 3 := by simpa [mbzSet, badMaxState] using h
  simpa only [operandOk, byteOperand_toNat, decide_eq_true_eq] using hv

theorem operandOk_cellOperand (a : ArgRC) (h : (mbzSet a.mbz || notModule a.moduleId) = false) :
    operandOk .cellDetail (cellOperand a) = true := by
  obtain ⟨h1, h31⟩ := (notModule_eq_false_iff _).1 (Bool.or_eq_false_iff.1 h).2
  simp only [operandOk, cellOperand_toNat, Bool.and_eq_true, decide_eq_true_eq]
  omega

/-- The levels 4 and 5 have the same check. -/
theorem operandOk_moduleOperand (a : ArgB) (h : (mbzSet a.mbz || notModule a.v) = false) :
    operandOk .status (byteOperand a) = true ∧ operandOk .regAck (byteOperand a) = true := by
  obtain ⟨h1, h31⟩ := (notModule_eq_false_iff _).1 (Bool.or_eq_false_iff.1 h).2
  simp only [operandOk, byteOperand_toNat, Bool.and_eq_true, decide_eq_true_eq]
  exact ⟨⟨h1, h31⟩, h1, h31⟩

/-! ### Every command has such an effect -/

theorem exec_hasArbEffect (i : Instr) (s : State) : HasArbEffect i s (exec i s) := by
  cases i with
  | crcWord a | xorWord a => exact .other
  | nop a | encStd a | encSd a | midClass a | crcInit a | crcLoad a | crcByte a | crcRead a | xorInit a | xorByte a
  | xorRead a => exact .mbz fun _ => .other
  | decKey a => exact .ite (fun _ => .refuse) fun _ => .other
  | encKey a => exact .mbz fun _ => .ite (fun _ => .refuse) fun _ => .other
  | csrWrite a => exact .mbzOr fun _ => .ite (fun _ => .refuse) fun _ => .other
  | decSd a => exact .ite (fun _ => .refuse) fun _ => .ite (fun _ => .refuse) fun _ => .other
  | crcCheck a | xorCheck a => exact .mbz fun _ => .ite (fun _ => .other) fun _ => .refuse
  | decStd a => exact .ite (fun _ => .other) fun _ => .ite (fun _ => .other) fun _ => .refuse
  | csrRead a => exact .csrRead a s
  | softReset a => obtain ⟨mbz⟩ := a; exact .mbz fun h => by cases h; exact .respond .softReset
  | reqState a => exact .request (operandOk_stateOperand a) rfl
  | reqHeartbeat a => exact .request (operandOk_heartbeat a) rfl
  | reqCell a => exact .request (operandOk_cellOperand a) (by rw [gated, lowByte_cellOperand])
  | reqStatus a => exact .request (fun h => (operandOk_moduleOperand a h).1) (by rw [gated, lowByte_byteOperand])
  | reqRegack a => exact .request (fun h => (operandOk_moduleOperand a h).2) rfl
  | reqTimesync a | reqAnnounce a => exact .request (fun _ => rfl) rfl
  | arbTick a => exact .arbTick a s
  | awaitClrStatus a => obtain ⟨v, mbz⟩ := a; exact .mbzOr fun h => by cases h; exact .respond .clrStatus
  | awaitClrCell a => obtain ⟨v, mbz⟩ := a; exact .mbzOr fun h => by cases h; exact .respond .clrCell
  | awaitClrModule a => obtain ⟨v, mbz⟩ := a; exact .mbzOr fun h => by cases h; exact .respond .clrModule
  | linkDown a => obtain ⟨mbz⟩ := a; exact .mbz fun h => by cases h; exact .respond .linkDown
  | linkUp a =>
    obtain ⟨mbz⟩ := a
    refine .mbz fun h => .ite (fun _ => .other) fun hl => ?_
    cases h
    exact .respond (.linkUp (Bool.eq_false_of_not_eq_true hl))

/-! ### Reset (R35) -/

/-- Settles O45: `Regs.reset` holds the table of R35, and `SOFT_RESET` writes it. -/
theorem resetValuesAreTheListedOnes : Obligations.ResetValuesAreTheListedOnes :=
  ⟨fun _ => rfl, fun _ => rfl, rfl, rfl, rfl⟩

/-- Settles O46: after reset nothing is requested and nothing is in flight. -/
theorem resetIsConsistent : Obligations.ResetIsConsistent :=
  fun _ => consistent_of_quiet rfl rfl rfl

/-! ### The invariant (R34 (a) to (d)) -/

theorem arbEffect_consistent {i : Instr} {s t : State} (h : ArbEffect s i t) (hs : s.regs.Consistent) :
    t.regs.Consistent := by
  cases h with
  | same => exact hs
  | softReset | linkDown => exact consistent_of_quiet rfl rfl rfl
  | latch hlink hv => exact consistent_latch hs hlink hv
  | grant hlink hk => exact consistent_grant hs hlink (sel_requested hk)
  | drop => exact consistent_clearReq hs _
  | clrStatus => exact consistent_clearAwaitStatus hs _
  | clrCell => exact consistent_clearAwaitCell hs _
  | clrModule => exact consistent_clearAwaitCell (consistent_clearAwaitStatus hs _) _
  | linkUp => exact consistent_linkUp s.regs

/-- A step on a presented word answers an illegal `op`, or has the effect of the command it decodes to. -/
theorem step_cons_arbEffect {s t : State} {cw : CmdWord} {rest : List CmdWord} (hp : s.pending = cw :: rest)
    (h : step s = .next t) :
    (∃ why, decode cw = .error why ∧ t.regs = s.regs) ∨
      ∃ i, decode cw = .ok i ∧ exec i { s with pending := rest } = .next t ∧
        ArbEffect { s with pending := rest } i t := by
  cases hd : decode cw with
  | error why =>
    rw [step_of_decode_error hp hd] at h
    cases h
    exact .inl ⟨why, rfl, rfl⟩
  | ok i =>
    rw [step_of_decode_ok hp hd] at h
    exact .inr ⟨i, rfl, h, exec_hasArbEffect i _ t h⟩

/-- Settles O47: every effect of a command keeps R34, and the other steps write no register. -/
theorem stepKeepsConsistent : Obligations.StepKeepsConsistent := by
  intro s t hs h
  cases hp : s.pending with
  | nil =>
    rw [step_of_pending_nil hp] at h
    cases h
    exact hs
  | cons cw rest =>
    obtain ⟨_, -, hregs⟩ | ⟨i, -, -, heff⟩ := step_cons_arbEffect hp h
    · rwa [hregs]
    · exact arbEffect_consistent heff hs

/-! ### The in-flight bits (R28, R29) -/

/-- A command is a grant, or it sets no in-flight bit. -/
theorem arbEffect_grant_or_fewer {i : Instr} {s t : State} (h : ArbEffect s i t) :
    (∃ k, i = .arbTick ⟨1, 0⟩ ∧ s.regs.requested k = true ∧
      t = s.answered (grantRegs s.regs k) (grantWord s.regs k) .ok) ∨
    ((∀ m, t.regs.awStatus.getLsbD m = true → s.regs.awStatus.getLsbD m = true) ∧
      ∀ m, t.regs.awCell.getLsbD m = true → s.regs.awCell.getLsbD m = true) := by
  cases h with
  | grant _ hk => exact .inl ⟨_, rfl, sel_requested hk, rfl⟩
  | same | latch | drop | softReset | linkDown | linkUp => exact .inr ⟨by simp, by simp⟩
  | clrStatus | clrCell | clrModule => exact .inr ⟨by simp +contextual, by simp +contextual⟩

/-- Settles O56: a bit that was 0 and is 1 was not kept, so the command is a grant, and its level and module are those
of the bit. -/
theorem inFlightBitIsSetOnlyByAGrant : Obligations.InFlightBitIsSetOnlyByAGrant := by
  intro i s t m h
  obtain ⟨k, rfl, hk, rfl⟩ | ⟨hstatus, hcell⟩ := arbEffect_grant_or_fewer (exec_hasArbEffect i s t h)
  · constructor
    · intro h0 h1
      rw [answered_regs, grantRegs_awStatus] at h1
      split at h1
      next hks =>
        subst hks
        exact ⟨rfl, hk, (eq_of_getLsbD_setBit h0 h1).symm, rfl⟩
      · simp [h0] at h1
    · intro h0 h1
      rw [answered_regs, grantRegs_awCell] at h1
      split at h1
      next hkc =>
        subst hkc
        exact ⟨rfl, hk, (eq_of_getLsbD_setBit h0 h1).symm, rfl⟩
      · simp [h0] at h1
  · exact ⟨fun h0 h1 => by simp [hstatus m h1] at h0, fun h0 h1 => by simp [hcell m h1] at h0⟩

/-! ### At most one status request outstanding (R34 (e)) -/

theorem trace_of_pending_nil {s : State} (n : Nat) (h : s.pending = []) : trace n s = [] := by
  cases n with
  | zero => rfl
  | succ n => simp only [trace, h]

theorem trace_succ {s t : State} {cw : CmdWord} {rest : List CmdWord} (n : Nat) (hp : s.pending = cw :: rest)
    (h : step s = .next t) : trace (n + 1) s = ⟨cw, s.regs, t.responses.getLast?⟩ :: trace n t := by
  simp only [trace, hp, h]

/-- A run over a presented word begins with a step that answers, and goes on from its answer. -/
theorem exists_trace_succ {s : State} {cw : CmdWord} {rest : List CmdWord} (n : Nat) (hp : s.pending = cw :: rest) :
    ∃ t, step s = .next t ∧ trace (n + 1) s = ⟨cw, s.regs, t.responses.getLast?⟩ :: trace n t := by
  obtain ⟨r, res, st, h⟩ := step_answersOnce hp
  exact ⟨_, h, trace_succ n hp h⟩

/-- R144: a grant of level 4 for `m` finds `AW_STATUS[m]` clear and sets it. -/
theorem awaitingStatus_of_grant {s t : State} {cw : CmdWord} {rest : List CmdWord} {m : Byte}
    (hs : s.regs.Consistent) (hp : s.pending = cw :: rest) (h : step s = .next t)
    (hg : Event.grantsStatus m ⟨cw, s.regs, t.responses.getLast?⟩ = true) :
    s.regs.awaitingStatus m = false ∧ t.regs.awaitingStatus m = true := by
  obtain ⟨a, hd, hresp⟩ : ∃ a, decode cw = .ok (.arbTick a) ∧
      t.responses.getLast? = some ⟨0x00040000#32 ||| m.setWidth 32, .ok⟩ := by
    unfold Event.grantsStatus at hg
    split at hg
    · exact ⟨_, ‹_›, by simpa using hg⟩
    · simp at hg
  rw [step_of_decode_ok hp hd] at h
  obtain ⟨res, st, hst, rfl⟩ | ⟨k, -, -, hk, rfl⟩ | ⟨k, rfl⟩ := arbTick_next h
  · simp [hst] at hresp
  · obtain ⟨rfl, hm⟩ := grantWord_eq_status (r := s.regs) (k := k) (m := m) (by simpa using hresp)
    obtain ⟨hok, hgate⟩ := ((consistent_iff s.regs).1 hs).2.2 .status (sel_requested hk)
    obtain rfl : lowByte s.regs.param4 = m :=
      BitVec.eq_of_toNat_eq (by have := m.isLt; rw [lowByte_toNat, hm]; omega)
    have hlt : (lowByte s.regs.param4).toNat < 32 := Nat.lt_succ_of_le (lowByte_bounds_of_operandOk hok (.inl rfl)).2
    refine ⟨hgate, ?_⟩
    rw [Regs.awaitingStatus, answered_regs, grantRegs_awStatus, if_pos rfl, getLsbD_setBit]
    simp [hlt]
  · simp at hresp

/-- R28: a command that does not clear `AW_STATUS[m]` leaves it set. -/
theorem awaitingStatus_of_not_clearsStatus {s t : State} {cw : CmdWord} {rest : List CmdWord} {m : Byte}
    {resp : Option Response} (hp : s.pending = cw :: rest) (h : step s = .next t)
    (hc : Event.clearsStatus m ⟨cw, s.regs, resp⟩ = false) (hm : s.regs.awaitingStatus m = true) :
    t.regs.awaitingStatus m = true := by
  obtain ⟨_, -, hregs⟩ | ⟨i, hd, -, heff⟩ := step_cons_arbEffect hp h
  · rwa [hregs]
  unfold Regs.awaitingStatus at hm ⊢
  cases heff with
  | same | latch | drop | clrCell => simpa using hm
  | grant =>
    rw [answered_regs, grantRegs_awStatus]
    split
    · simp [hm]
    · exact hm
  | @clrStatus v | @clrModule v =>
    have hv : v ≠ m := by simpa [Event.clearsStatus, hd] using hc
    simpa [hm] using fun e => hv (BitVec.eq_of_toNat_eq e.symm)
  | softReset | linkDown => simp [Event.clearsStatus, hd] at hc
  | linkUp hdown => simp [Event.clearsStatus, hd, show s.regs.link = false from hdown] at hc

/-- While `AW_STATUS[m]` is set and not cleared no tick grants level 4 for `m`. -/
theorem no_grant_of_awaitingStatus {m : Byte} (n : Nat) {s : State} (hs : s.regs.Consistent)
    (hm : s.regs.awaitingStatus m = true) (hc : ∀ e ∈ trace n s, e.clearsStatus m = false) :
    ∀ e ∈ trace n s, e.grantsStatus m = false := by
  induction n generalizing s with
  | zero => simp [trace]
  | succ n ih =>
    cases hp : s.pending with
    | nil => simp [trace_of_pending_nil _ hp]
    | cons cw rest =>
      obtain ⟨t, hstep, htrace⟩ := exists_trace_succ n hp
      rw [htrace, List.forall_mem_cons] at hc ⊢
      refine ⟨Bool.eq_false_of_not_eq_true fun hg => ?_,
        ih (stepKeepsConsistent s t hs hstep) (awaitingStatus_of_not_clearsStatus hp hstep hc.1 hm) hc.2⟩
      simp [(awaitingStatus_of_grant hs hp hstep hg).1] at hm

/-- Settles O48, by induction on the run: after the first grant `AW_STATUS[m]` is set and gates every later one. -/
theorem atMostOneStatusRequestOutstanding : Obligations.AtMostOneStatusRequestOutstanding := by
  intro s n m hs hc
  induction n generalizing s with
  | zero => simp [trace]
  | succ n ih =>
    cases hp : s.pending with
    | nil => simp [trace_of_pending_nil _ hp]
    | cons cw rest =>
      obtain ⟨t, hstep, htrace⟩ := exists_trace_succ n hp
      have ht : t.regs.Consistent := stepKeepsConsistent s t hs hstep
      rw [htrace, List.forall_mem_cons] at hc
      rw [htrace, List.filter_cons]
      split
      next hg =>
        have hnone := no_grant_of_awaitingStatus n ht (awaitingStatus_of_grant hs hp hstep hg).2 hc.2
        simpa using hnone
      · exact ih t ht hc.2

/-! ### The reachable states -/

theorem reachable_consistent {p : Params} {s : State} (h : Reachable p s) : s.regs.Consistent := by
  induction h with
  | reset => exact resetIsConsistent p
  | present cw s _ ih => exact ih
  | step s t _ hstep ih => exact stepKeepsConsistent s t ih hstep

/-- Settles O49: the invariant holds of every reachable state, and P2 of every run from a state that has it. -/
theorem reachableStatesSatisfyTheInvariant : Obligations.ReachableStatesSatisfyTheInvariant :=
  fun _ s h => ⟨reachable_consistent h, fun n m => atMostOneStatusRequestOutstanding s n m (reachable_consistent h)⟩

end Sys2Proof.Proofs

/-! PROOFS of the statements on the encoding (spec/30_encoding.md R70 to R81). First that each operand format writes back
the operand it was read from, then the decoder and the encoder along the rows of the opcode map, from which the two
directions of the round trip and the illegal operation codes follow, and last the pseudo-commands of the assembler. -/

namespace Sys2Proof.Proofs

open Sys2Proof.Machine Sys2Proof.Laws

/-! ### A format read from an operand writes that operand (R72) -/

/-- Two adjacent fields, each put back where it was read, are one field over both ranges: bit by bit, a position below
`lo + w + v` lies in one of the two. -/
theorem place_bitsOf_or_adjacent (arg : Word) {mid lo v w : Nat} (h : mid = lo + w) :
    place (bitsOf arg mid v) mid ||| place (bitsOf arg lo w) lo = place (bitsOf arg lo (w + v)) lo := by
  apply BitVec.eq_of_getLsbD_eq
  intro i hi
  simp only [BitVec.getLsbD_or, getLsbD_place_bitsOf]
  grind

/-- A field over all 32 bits is the operand. -/
theorem place_bitsOf_all (arg : Word) {w : Nat} (h : 32 ≤ w) : place (bitsOf arg 0 w) 0 = arg := by
  apply BitVec.eq_of_getLsbD_eq
  intro i hi
  have hw : i < w := by omega
  simp [getLsbD_place_bitsOf, hw]

@[simp] theorem argZ_toArg_ofArg (arg : Word) : (ArgZ.ofArg arg).toArg = arg := place_bitsOf_all arg (by omega)

@[simp] theorem argB_toArg_ofArg (arg : Word) : (ArgB.ofArg arg).toArg = arg := by
  simp (disch := omega) only [ArgB.ofArg, ArgB.toArg, place_bitsOf_or_adjacent, place_bitsOf_all]

@[simp] theorem argH_toArg_ofArg (arg : Word) : (ArgH.ofArg arg).toArg = arg := by
  simp (disch := omega) only [ArgH.ofArg, ArgH.toArg, place_bitsOf_or_adjacent, place_bitsOf_all]

@[simp] theorem argW_toArg_ofArg (arg : Word) : (ArgW.ofArg arg).toArg = arg := by
  simp (disch := omega) only [ArgW.ofArg, ArgW.toArg, place_bitsOf_or_adjacent, place_bitsOf_all]

@[simp] theorem argX_toArg_ofArg (arg : Word) : (ArgX.ofArg arg).toArg = arg := by
  simp (disch := omega) only [ArgX.ofArg, ArgX.toArg, place_bitsOf_or_adjacent, place_bitsOf_all]

@[simp] theorem argES_toArg_ofArg (arg : Word) : (ArgES.ofArg arg).toArg = arg := by
  simp (disch := omega) only [ArgES.ofArg, ArgES.toArg, place_bitsOf_or_adjacent, place_bitsOf_all]

@[simp] theorem argED_toArg_ofArg (arg : Word) : (ArgED.ofArg arg).toArg = arg := by
  simp (disch := omega) only [ArgED.ofArg, ArgED.toArg, place_bitsOf_or_adjacent, place_bitsOf_all]

@[simp] theorem argEK_toArg_ofArg (arg : Word) : (ArgEK.ofArg arg).toArg = arg := by
  simp (disch := omega) only [ArgEK.ofArg, ArgEK.toArg, place_bitsOf_or_adjacent, place_bitsOf_all]

@[simp] theorem argRS_toArg_ofArg (arg : Word) : (ArgRS.ofArg arg).toArg = arg := by
  simp (disch := omega) only [ArgRS.ofArg, ArgRS.toArg, place_bitsOf_or_adjacent, place_bitsOf_all]

@[simp] theorem argRC_toArg_ofArg (arg : Word) : (ArgRC.ofArg arg).toArg = arg := by
  simp (disch := omega) only [ArgRC.ofArg, ArgRC.toArg, place_bitsOf_or_adjacent, place_bitsOf_all]

@[simp] theorem argT_toArg_ofArg (arg : Word) : (ArgT.ofArg arg).toArg = arg := by
  simp (disch := omega) only [ArgT.ofArg, ArgT.toArg, place_bitsOf_or_adjacent, place_bitsOf_all]

@[simp] theorem argCR_toArg_ofArg (arg : Word) : (ArgCR.ofArg arg).toArg = arg := by
  simp (disch := omega) only [ArgCR.ofArg, ArgCR.toArg, place_bitsOf_or_adjacent, place_bitsOf_all]

@[simp] theorem argCW_toArg_ofArg (arg : Word) : (ArgCW.ofArg arg).toArg = arg := by
  simp (disch := omega) only [ArgCW.ofArg, ArgCW.toArg, place_bitsOf_or_adjacent, place_bitsOf_all]

/-! ### The round trip (R70, R74) -/

/-- The row of an operation code makes the instruction that a word with that code decodes to. -/
theorem decode_packWord_of_make {op : BitVec 8} {arg : Word} {row : OpRow} {i : Instr}
    (hrow : opcodeMap.find? (fun r => r.op == op) = some row) (hmake : row.make arg = i) :
    decode (packWord op arg) = .ok i := by
  rw [decode_packWord_of_find hrow, hmake]

/-- Settles O34: the operation code that `encode` writes selects the instruction's own row, and that row's format reads
back the operand. The commands are grouped by format. -/
theorem decodeOfEncodeIsTheInstruction : Obligations.DecodeOfEncodeIsTheInstruction := by
  intro i
  cases i with
  | nop a | softReset a | reqTimesync a | reqAnnounce a | linkDown a | linkUp a | crcInit a | crcRead a | xorInit a
  | xorRead a => exact decode_packWord_of_make rfl (congrArg _ (argZ_ofArg_toArg a))
  | midClass a | reqHeartbeat a | reqStatus a | reqRegack a | awaitClrStatus a | awaitClrCell a | awaitClrModule a
  | crcByte a | xorByte a | xorCheck a => exact decode_packWord_of_make rfl (congrArg _ (argB_ofArg_toArg a))
  | crcLoad a | crcCheck a => exact decode_packWord_of_make rfl (congrArg _ (argH_ofArg_toArg a))
  | crcWord a | xorWord a => exact decode_packWord_of_make rfl (congrArg _ (argW_ofArg_toArg a))
  | decStd a | decSd a | decKey a => exact decode_packWord_of_make rfl (congrArg _ (argX_ofArg_toArg a))
  | encStd a => exact decode_packWord_of_make rfl (congrArg _ (argES_ofArg_toArg a))
  | encSd a => exact decode_packWord_of_make rfl (congrArg _ (argED_ofArg_toArg a))
  | encKey a => exact decode_packWord_of_make rfl (congrArg _ (argEK_ofArg_toArg a))
  | reqState a => exact decode_packWord_of_make rfl (congrArg _ (argRS_ofArg_toArg a))
  | reqCell a => exact decode_packWord_of_make rfl (congrArg _ (argRC_ofArg_toArg a))
  | arbTick a => exact decode_packWord_of_make rfl (congrArg _ (argT_ofArg_toArg a))
  | csrRead a => exact decode_packWord_of_make rfl (congrArg _ (argCR_ofArg_toArg a))
  | csrWrite a => exact decode_packWord_of_make rfl (congrArg _ (argCW_ofArg_toArg a))

/-- What a row makes of an operand is encoded as the row's operation code and that operand: row by row, the format of
the row writes back the operand it reads. -/
theorem encode_make : ∀ row ∈ opcodeMap, ∀ arg : Word, encode (row.make arg) = packWord row.op arg := by
  intro row hrow arg
  fin_cases hrow
  all_goals simp [encode]

/-- A word that decodes does so through the row of its operation code. -/
theorem exists_row_of_decode_ok {cw : CmdWord} {i : Instr} (h : decode cw = .ok i) :
    ∃ row ∈ opcodeMap, row.op = opOf cw ∧ i = row.make (argOf cw) := by
  unfold decode at h
  split at h
  next row hrow =>
    exact ⟨row, List.mem_of_find?_eq_some hrow, by simpa using List.find?_some hrow, by simpa using h.symm⟩
  next => cases h

/-- Settles O35: the word decodes through a row of the map, and `encode_make` gives that row's word back. -/
theorem encodeOfDecodeIsTheWord : Obligations.EncodeOfDecodeIsTheWord := by
  intro cw i h
  obtain ⟨row, hmem, hop, rfl⟩ := exists_row_of_decode_ok h
  rw [encode_make row hmem, hop, packWord_opOf_argOf]

/-! ### The illegal operation codes (R75) -/

/-- The ranges of R75. -/
def IllegalOp (op : Nat) : Prop :=
  (0x03 ≤ op ∧ op ≤ 0x0E) ∨ op = 0x13 ∨ (0x18 ≤ op ∧ op ≤ 0x20) ∨ op = 0x2E ∨ op = 0x2F ∨ op = 0x36 ∨ op = 0x37 ∨
    (0x3D ≤ op ∧ op ≤ 0xFF)

/-- The ranges of R75 are the complement of the 35 codes of R74. -/
theorem illegalOp_iff (op : BitVec 8) : IllegalOp op.toNat ↔ ∀ row ∈ opcodeMap, row.op ≠ op := by
  have := op.isLt
  simp only [IllegalOp, opcodeMap, systemRows, codecRows, arbiterRows, checksumRows, List.cons_append, List.nil_append,
    List.forall_mem_cons, List.not_mem_nil, ← BitVec.toNat_inj, BitVec.reduceToNat, ne_eq, IsEmpty.forall_iff,
    implies_true, and_true]
  omega

/-- An operation code of R75 is refused by name, whatever the operand. -/
theorem decode_of_illegalOp {op : BitVec 8} (h : IllegalOp op.toNat) (arg : Word) :
    decode (op ++ arg) = .error (.illegalOp op) := by
  have hnone : opcodeMap.find? (fun row => row.op == op) = none := by
    simpa [List.find?_eq_none] using (illegalOp_iff op).mp h
  rw [← packWord_eq_append, decode, opOf_packWord, hnone]

/-- An operation code outside R75 selects a row, and the word is that of the instruction the row makes of the
operand. -/
theorem exists_decode_of_not_illegalOp {op : BitVec 8} (h : ¬IllegalOp op.toNat) (arg : Word) :
    ∃ i : Instr, decode (op ++ arg) = .ok i := by
  obtain ⟨row, hmem, rfl⟩ : ∃ row ∈ opcodeMap, row.op = op := by simpa [illegalOp_iff] using h
  refine ⟨row.make arg, ?_⟩
  rw [← packWord_eq_append, ← encode_make row hmem, decodeOfEncodeIsTheInstruction]

/-- Settles O36: the decoder refuses exactly the codes of R75, the step answers a refused word, and every word is
answered (O40). -/
theorem illegalOpIsAnsweredAndChangesNothing : Obligations.IllegalOpIsAnsweredAndChangesNothing := by
  refine ⟨fun op arg => ⟨fun hill i => ?_, fun hdec => ?_⟩, fun s op arg rest hill hp => ?_, fun s cw rest hp => ?_⟩
  · simp [decode_of_illegalOp hill arg]
  · by_contra hlegal
    obtain ⟨i, hi⟩ := exists_decode_of_not_illegalOp hlegal arg
    exact hdec i hi
  · exact step_of_decode_error hp (decode_of_illegalOp hill arg)
  · obtain ⟨r, resp, hstep⟩ := everyCommandIsAnsweredOnce s cw rest hp
    exact ⟨_, resp, hstep, rfl⟩

/-! ### The listed words and the pseudo-commands (R80, R81) -/

/-- Settles O37: each listed word is what `encode` writes of its command, and decodes back by O34. -/
theorem listedWordsDecode : Obligations.ListedWordsDecode :=
  ⟨decodeOfEncodeIsTheInstruction (.csrWrite ⟨0, 0, 0x81, 0⟩),
    decodeOfEncodeIsTheInstruction (.encStd ⟨0x01, 0x510, 0⟩),
    decodeOfEncodeIsTheInstruction (.encSd ⟨3, 0, 5, 2, 0, 0⟩),
    decodeOfEncodeIsTheInstruction (.encKey ⟨0x12, 5, 0x409, 0⟩),
    decodeOfEncodeIsTheInstruction (.reqState ⟨0x05, 1, 0⟩),
    decodeOfEncodeIsTheInstruction (.reqCell ⟨2, 7, 0⟩),
    decodeOfEncodeIsTheInstruction (.arbTick ⟨1, 1⟩),
    decodeOfEncodeIsTheInstruction (.crcWord ⟨0x31, 0x32, 0x33, 0x34⟩)⟩

/-- Four bytes fit in the 32-bit number that format W is written as. -/
theorem fourBytes_lt (b0 b1 b2 b3 : Byte) : fourBytes b0.toNat b1.toNat b2.toNat b3.toNat < 2 ^ 32 := by
  have := b0.isLt; have := b1.isLt; have := b2.isLt; have := b3.isLt
  simp only [fourBytes]
  omega

/-- Format W reads the four bytes of a number back, the first from the low end. -/
theorem argW_ofArg_fourBytes (b0 b1 b2 b3 : Byte) :
    ArgW.ofArg (BitVec.ofNat 32 (fourBytes b0.toNat b1.toNat b2.toNat b3.toNat)) = ⟨b0, b1, b2, b3⟩ := by
  have := b0.isLt; have := b1.isLt; have := b2.isLt; have := b3.isLt
  simp only [ArgW.ofArg, bitsOf, fourBytes, ArgW.mk.injEq, ← BitVec.toNat_inj, BitVec.extractLsb'_toNat,
    BitVec.toNat_ofNat, Nat.shiftRight_eq_div_pow]
  omega

/-- A command of format W assembles from four bytes to its operation code over those bytes. -/
theorem assembleCore_fourBytes {mnemonic : String} {row : OpRow}
    (hrow : opcodeMap.find? (fun r => r.mnemonic == mnemonic) = some row) (hformat : row.format = .W)
    (b0 b1 b2 b3 : Byte) :
    assembleCore mnemonic [fourBytes b0.toNat b1.toNat b2.toNat b3.toNat] =
      some (packWord row.op (ArgW.toArg ⟨b0, b1, b2, b3⟩)) := by
  rw [← argW_ofArg_fourBytes, argW_toArg_ofArg]
  simpa [assembleCore, hrow, hformat, textFields, packFields] using fourBytes_lt b0 b1 b2 b3

/-- Eight bytes assemble to two commands of format W, the first four bytes in the first. -/
theorem assembleChunk_eq {mnemonic : String} {row : OpRow}
    (hrow : opcodeMap.find? (fun r => r.mnemonic == mnemonic) = some row) (hformat : row.format = .W)
    (b0 b1 b2 b3 b4 b5 b6 b7 : Byte) :
    assembleChunk mnemonic
        [b0.toNat, b1.toNat, b2.toNat, b3.toNat, b4.toNat, b5.toNat, b6.toNat, b7.toNat] =
      some [packWord row.op (ArgW.toArg ⟨b0, b1, b2, b3⟩), packWord row.op (ArgW.toArg ⟨b4, b5, b6, b7⟩)] := by
  have hbyte (b : Byte) : b.toNat < 256 := b.isLt
  simp [assembleChunk, assembleCore_fourBytes hrow hformat, hbyte]

/-- Settles O38: four pseudo-commands are the core command with one number filled in, and the two chunks are
`assembleChunk` on the rows of `CRC_WORD` and `XOR_WORD`. -/
theorem pseudoCommandsExpand : Obligations.PseudoCommandsExpand := by
  refine ⟨fun base => ?_, fun base => ?_, fun state => ?_, fun value => ?_, fun b0 b1 b2 b3 b4 b5 b6 b7 => ⟨?_, ?_⟩⟩
  · simp [assemble]
  · simp [assemble]
  · simp [assemble]
  · simp [assemble]
  · simpa [assemble, encode] using assembleChunk_eq (mnemonic := "CRC_WORD") rfl rfl b0 b1 b2 b3 b4 b5 b6 b7
  · simpa [assemble, encode] using assembleChunk_eq (mnemonic := "XOR_WORD") rfl rfl b0 b1 b2 b3 b4 b5 b6 b7

end Sys2Proof.Proofs

/-! PROOFS of the statements on the identifier codec (spec/40_id_codec.md R108 to R117). First the identifier each encoder
builds and the operand each decoder's result is the word of, and what each command answers in terms of them, from which
the commands' own rules follow. The round trips are then equations between identifiers and operands, and an encoder is
injective because its decoder is a left inverse. -/

namespace Sys2Proof.Proofs

open Sys2Proof.Machine Sys2Proof.Laws

/-! ### More about fields of a word -/

theorem place_zero {w : Nat} (x : BitVec w) : place x 0 = x.setWidth 32 := BitVec.shiftLeft_zero _

@[simp] theorem place_zero_width (w lo : Nat) : place 0#w lo = 0#32 := by simp [place]

/-- A field written into a wider one, zeros above it. -/
theorem place_setWidth {v w : Nat} (x : BitVec v) (lo : Nat) (h : v ≤ w) : place (x.setWidth w) lo = place x lo := by
  apply BitVec.eq_of_getLsbD_eq
  intro i hi
  have hx : i - lo < w ∨ x.getLsbD (i - lo) = false := by
    by_cases hw : i - lo < w
    · exact .inl hw
    · exact .inr (BitVec.getLsbD_of_ge _ _ (by omega))
  rcases hx with hx | hx <;> simp [getLsbD_place, hx]

theorem setWidth_eq_zero_iff {v w : Nat} (x : BitVec v) (h : v ≤ w) : x.setWidth w = 0#w ↔ x = 0#v := by
  have hx : x.toNat < 2 ^ w := x.isLt.trans_le (Nat.pow_le_pow_right (by omega) h)
  simp [← BitVec.toNat_inj, Nat.mod_eq_of_lt hx]

/-- A field whose bits the mask covers is kept. -/
theorem place_and_eq_self {w : Nat} (x : BitVec w) (lo : Nat) (m : Word)
    (h : ∀ i < 32, lo ≤ i → i < lo + w → m.getLsbD i = true) : place x lo &&& m = place x lo := by
  apply BitVec.eq_of_getLsbD_eq
  intro i hi
  rw [BitVec.getLsbD_and, getLsbD_place]
  by_cases hlo : lo ≤ i
  · by_cases hhi : i < lo + w
    · simp [h i hi hlo hhi]
    · have hx : x.getLsbD (i - lo) = false := BitVec.getLsbD_of_ge _ _ (by omega)
      simp [hx]
  · simp [hlo]

/-- The low 29 bits of a word, the identifier it carries in format X, as a word. -/
theorem extractLsb'_setWidth_eq_place (x : Word) : (x.extractLsb' 0 29).setWidth 32 = place (bitsOf x 0 29) 0 :=
  (place_zero _).symm

/-! ### The fields of an identifier, read from the word that carries it (R77, R102, R104) -/

@[simp] theorem baseOf_ofArg (x : Word) : baseOf (ArgX.ofArg x).extId = bitsOf x 18 11 := by
  ext i hi
  simp [baseOf, ArgX.ofArg, bitsOf]

@[simp] theorem midOf_ofArg (x : Word) : midOf (ArgX.ofArg x).extId = bitsOf x 8 10 := by
  ext i hi
  simp [midOf, ArgX.ofArg, bitsOf]

@[simp] theorem modfieldOf_ofArg (x : Word) : modfieldOf (ArgX.ofArg x).extId = bitsOf x 0 8 := by
  ext i hi
  simp [modfieldOf, ArgX.ofArg, bitsOf]

@[simp] theorem keyChunkOf_ofArg (x : Word) : keyChunkOf (ArgX.ofArg x).extId = bitsOf x 8 3 := by
  ext i hi
  simp [keyChunkOf, ArgX.ofArg, bitsOf]

@[simp] theorem modeOf_ofArg (x : Word) : modeOf (ArgX.ofArg x).extId = x.getLsbD 17 := by
  simp [modeOf, ArgX.ofArg, bitsOf]

theorem inProtoSet_eq_true_iff (base : BaseId) :
    inProtoSet base = true ↔
      (0x500 ≤ base.toNat ∧ base.toNat ≤ 0x51F) ∨ (0x3F0 ≤ base.toNat ∧ base.toNat ≤ 0x3F3) := by
  simp [inProtoSet]

/-! ### The identifier an encoder builds -/

/-- `(base << 18) | modfield` (R108). -/
def stdId (a : ArgES) : Word := place a.base baseShift ||| place a.modfield 0

/-- `(0x3F1 << 18) | (1 << 17) | arg[16:0]` (R109). -/
def sdId (a : ArgED) : Word := place sdDataBase baseShift ||| place 1#1 17 ||| sdLow a

/-- `(base << 18) | (chunk << 8) | low` (R110). -/
def keyId (a : ArgEK) : Word := place a.base baseShift ||| place a.chunk 8 ||| place a.low 0

theorem sdId_eq (a : ArgED) : sdId a = 0x0FC60000#32 ||| sdLow a := rfl

/-! ### The operand a decoder's result is the word of

The result of a decoder is laid out as the operand of the encoder it answers to, with what the encoder would refuse or
ignore in the must-be-zero bits. -/

/-- The operand of `ENC_STD` for an identifier: the ten middle bits stand in the must-be-zero field (R112). -/
def stdOperand (x : Word) : ArgES := ⟨bitsOf x 0 8, bitsOf x 18 11, (bitsOf x 8 10).setWidth 13⟩

/-- The operand of `ENC_SD` for an identifier: the mode bit stands in the must-be-zero field (R113). -/
def sdOperand (x : Word) : ArgED := { ArgED.ofArg x with mbz := (bitsOf x 17 1).setWidth 15 }

/-- The operand of `ENC_KEY` for an identifier: bits 17..11 are dropped (R114). -/
def keyOperand (x : Word) : ArgEK := ⟨bitsOf x 0 8, bitsOf x 8 3, bitsOf x 18 11, 0⟩

theorem stdOperand_toArg (x : Word) :
    (stdOperand x).toArg = stdResult (bitsOf x 8 10) (bitsOf x 18 11) (bitsOf x 0 8) := by
  simp only [ArgES.toArg, stdOperand, stdResult, place_setWidth (bitsOf x 8 10) 19 (by omega : 10 ≤ 13)]

/-- The low 17 bits of an operand of format ED, apart from what stands above them. -/
theorem argED_toArg_eq (a : ArgED) : a.toArg = place a.mbz 17 ||| sdLow a := by
  simp only [ArgED.toArg, sdLow, BitVec.or_assoc]

/-- The low 17 bits of a word are the fields that format ED reads from it. -/
theorem sdLow_ofArg (x : Word) : sdLow (ArgED.ofArg x) = place (bitsOf x 0 17) 0 := by
  simp (disch := omega) only [sdLow, ArgED.ofArg, place_bitsOf_or_adjacent]

theorem sdOperand_toArg (x : Word) : (sdOperand x).toArg = place (bitsOf x 0 18) 0 := by
  have hlow : sdLow (sdOperand x) = place (bitsOf x 0 17) 0 := sdLow_ofArg x
  rw [argED_toArg_eq, hlow, sdOperand, place_setWidth _ _ (by omega), place_bitsOf_or_adjacent x (rfl : 17 = 0 + 17)]

theorem keyOperand_toArg (x : Word) :
    (keyOperand x).toArg = place (bitsOf x 18 11) 11 ||| place (bitsOf x 8 3) 8 ||| place (bitsOf x 0 8) 0 := by
  simp [ArgEK.toArg, keyOperand]

/-! ### What the encoders answer -/

theorem exec_encStd_ok {a : ArgES} (s : State) (h : a.mbz = 0) :
    exec (.encStd a) s = .next (s.answered s.regs (stdId a) .ok) :=
  if_neg (by simp [mbzSet, h])

theorem exec_encStd_badArg {a : ArgES} (s : State) (h : a.mbz ≠ 0) :
    exec (.encStd a) s = .next (s.answered s.regs 0 .eBadArg) :=
  if_pos ((mbzSet_eq_true_iff _).mpr h)

theorem exec_encSd_ok {a : ArgED} (s : State) (h : a.mbz = 0) :
    exec (.encSd a) s = .next (s.answered s.regs (sdId a) .ok) :=
  if_neg (by simp [mbzSet, h])

theorem exec_encSd_badArg {a : ArgED} (s : State) (h : a.mbz ≠ 0) :
    exec (.encSd a) s = .next (s.answered s.regs 0 .eBadArg) :=
  if_pos ((mbzSet_eq_true_iff _).mpr h)

theorem exec_encKey_ok {a : ArgEK} (s : State) (h : a.mbz = 0) (hbase : isKeyBase a.base = true) :
    exec (.encKey a) s = .next (s.answered s.regs (keyId a) .ok) := by
  simp [exec, execEncKey, mbzSet, h, hbase, respond_eq, keyId]

theorem exec_encKey_unknownId {a : ArgEK} (s : State) (h : a.mbz = 0) (hbase : ¬isKeyBase a.base = true) :
    exec (.encKey a) s = .next (s.answered s.regs 0 .eUnknownId) := by
  simp [exec, execEncKey, mbzSet, h, hbase, refuse_eq]

theorem exec_encKey_badArg {a : ArgEK} (s : State) (h : a.mbz ≠ 0) :
    exec (.encKey a) s = .next (s.answered s.regs 0 .eBadArg) :=
  if_pos ((mbzSet_eq_true_iff _).mpr h)

/-! ### What the decoders answer -/

theorem exec_decStd_ok {a : ArgX} (s : State) (h : inProtoSet (baseOf a.extId) = true) :
    exec (.decStd a) s =
      .next (s.answered s.regs (stdResult (midOf a.extId) (baseOf a.extId) (modfieldOf a.extId)) .ok) :=
  if_pos h

theorem exec_decStd_aliased {a : ArgX} (s : State) (h : baseOf a.extId = 0) (hz : s.regs.zbase = true) :
    exec (.decStd a) s =
      .next (s.answered s.regs (stdResult (midOf a.extId) 0x500#11 (modfieldOf a.extId)) .okAliased) := by
  simp [exec, execDecStd, h, hz, inProtoSet, respond_eq]

theorem exec_decStd_unknownId {a : ArgX} (s : State) (h : ¬inProtoSet (baseOf a.extId) = true)
    (hz : ¬(baseOf a.extId = 0 ∧ s.regs.zbase = true)) :
    exec (.decStd a) s = .next (s.answered s.regs 0 .eUnknownId) :=
  (if_neg h).trans (if_neg (by simpa using hz))

theorem exec_decSd_ok {a : ArgX} (s : State) (h : baseOf a.extId = sdDataBase) (hmode : modeOf a.extId = true) :
    exec (.decSd a) s = .next (s.answered s.regs ((a.extId.extractLsb' 0 18).setWidth 32) .ok) := by
  simp [exec, execDecSd, h, hmode, respond_eq]

theorem exec_decSd_badArg {a : ArgX} (s : State) (h : baseOf a.extId = sdDataBase) (hmode : modeOf a.extId = false) :
    exec (.decSd a) s = .next (s.answered s.regs 0 .eBadArg) := by
  simp [exec, execDecSd, h, hmode, refuse_eq]

theorem exec_decSd_unknownId {a : ArgX} (s : State) (h : baseOf a.extId ≠ sdDataBase) :
    exec (.decSd a) s = .next (s.answered s.regs 0 .eUnknownId) :=
  if_pos (by simpa using h)

theorem exec_decKey_ok {a : ArgX} (s : State) (h : isKeyBase (baseOf a.extId) = true) :
    exec (.decKey a) s = .next (s.answered s.regs
      (place (baseOf a.extId) 11 ||| place (keyChunkOf a.extId) 8 ||| place (modfieldOf a.extId) 0) .ok) :=
  if_neg (by simp [h])

theorem exec_decKey_unknownId {a : ArgX} (s : State) (h : ¬isKeyBase (baseOf a.extId) = true) :
    exec (.decKey a) s = .next (s.answered s.regs 0 .eUnknownId) :=
  if_pos (by simpa using h)

/-- `DEC_STD` of a word in format X answers the word of `stdOperand`. -/
theorem exec_decStd_ofArg (s : State) {x : Word} (h : inProtoSet (bitsOf x 18 11) = true) :
    exec (.decStd (.ofArg x)) s = .next (s.answered s.regs (stdOperand x).toArg .ok) := by
  rw [exec_decStd_ok s (by rwa [baseOf_ofArg]), stdOperand_toArg, midOf_ofArg, baseOf_ofArg, modfieldOf_ofArg]

/-- `DEC_SD` of a word in format X answers the word of `sdOperand`. -/
theorem exec_decSd_ofArg (s : State) {x : Word} (h : bitsOf x 18 11 = sdDataBase) (hmode : x.getLsbD 17 = true) :
    exec (.decSd (.ofArg x)) s = .next (s.answered s.regs (sdOperand x).toArg .ok) := by
  have hlow : (ArgX.ofArg x).extId.extractLsb' 0 18 = bitsOf x 0 18 := by
    ext i hi
    simp [ArgX.ofArg, bitsOf]
  rw [exec_decSd_ok s (by rwa [baseOf_ofArg]) (by rwa [modeOf_ofArg]), sdOperand_toArg, place_zero, hlow]

/-- `DEC_KEY` of a word in format X answers the word of `keyOperand`. -/
theorem exec_decKey_ofArg (s : State) {x : Word} (h : isKeyBase (bitsOf x 18 11) = true) :
    exec (.decKey (.ofArg x)) s = .next (s.answered s.regs (keyOperand x).toArg .ok) := by
  rw [exec_decKey_ok s (by rwa [baseOf_ofArg]), keyOperand_toArg, baseOf_ofArg, keyChunkOf_ofArg, modfieldOf_ofArg]

/-! ### The classes of a module-ID field (R115) -/

theorem exec_midClass_ok {a : ArgB} (s : State) (h : a.mbz = 0) :
    exec (.midClass a) s = .next (s.answered s.regs (modfieldClass a.v) .ok) :=
  if_neg (by simp [mbzSet, h])

theorem exec_midClass_badArg {a : ArgB} (s : State) (h : a.mbz ≠ 0) :
    exec (.midClass a) s = .next (s.answered s.regs 0 .eBadArg) :=
  if_pos ((mbzSet_eq_true_iff _).mpr h)

theorem modfieldClass_assigned {v : Byte} (h : 0x01 ≤ v.toNat ∧ v.toNat ≤ 0x1F) : modfieldClass v = 1 := by
  have hzero : v ≠ 0x00#8 := by
    rintro rfl
    simp at h
  simp [modfieldClass, hzero, h.2]

theorem modfieldClass_invalid {v : Byte} (h : 0x20 ≤ v.toNat ∧ v.toNat ≤ 0xFE) : modfieldClass v = 3 := by
  have hzero : v ≠ 0x00#8 := by
    rintro rfl
    simp at h
  have hassigned : ¬v.toNat ≤ 0x1F := by omega
  have hsentinel : v ≠ 0xFF#8 := by
    rintro rfl
    simp at h
  simp [modfieldClass, hzero, hassigned, hsentinel]

/-! ### The rules of the commands (R108 to R115) -/

/-- The decoder on an operation code of the map above an operand. -/
theorem decode_append_of_make {op : BitVec 8} {arg : Word} {row : OpRow} {i : Instr}
    (hrow : opcodeMap.find? (fun r => r.op == op) = some row) (hmake : row.make arg = i) :
    decode (op ++ arg) = .ok i := by
  rw [← packWord_eq_append, decode_packWord_of_make hrow hmake]

/-- Settles O5, by the two equations of `ENC_STD`. -/
theorem encStdBuildsTheIdentifier : Obligations.EncStdBuildsTheIdentifier := by
  refine ⟨fun arg => decode_append_of_make rfl rfl, fun s modfield base => ⟨?_, fun mbz hm => exec_encStd_badArg s hm⟩⟩
  rw [exec_encStd_ok s rfl, stdId, place_zero]
  rfl

/-- Settles O6: the base and the mode bit together are the constant `0x0FC60000`. -/
theorem encSdBuildsTheIdentifier : Obligations.EncSdBuildsTheIdentifier := by
  refine ⟨fun arg => decode_append_of_make rfl rfl,
    fun s moduleId transferId chunkNum windowId lastChunk => ⟨?_, fun mbz hm => exec_encSd_badArg s hm⟩⟩
  rw [exec_encSd_ok s rfl, sdId_eq]
  simp only [sdLow, place_zero, ← BitVec.or_assoc]
  rfl

/-- Settles O7, by the three equations of `ENC_KEY`. -/
theorem encKeyBuildsTheIdentifier : Obligations.EncKeyBuildsTheIdentifier := by
  refine ⟨fun arg => decode_append_of_make rfl rfl, fun s low chunk base mbz => ?_⟩
  rw [← isKeyBase_eq_true_iff]
  refine ⟨fun hm hbase => ?_, fun hm hbase => exec_encKey_unknownId s hm hbase, fun hm => exec_encKey_badArg s hm⟩
  rw [exec_encKey_ok s hm hbase, keyId, place_zero]
  rfl

theorem stdResult_eq (mid : BitVec 10) (base : BaseId) (m : Byte) :
    stdResult mid base m = (mid.setWidth 32 <<< 19) ||| (base.setWidth 32 <<< 8) ||| m.setWidth 32 := by
  rw [stdResult, place_zero]
  rfl

/-- Settles O8, by the three equations of `DEC_STD`. -/
theorem decStdReadsTheIdentifier : Obligations.DecStdReadsTheIdentifier := by
  refine ⟨fun arg => decode_append_of_make rfl rfl, ?_⟩
  rintro s x ign base mid m rfl rfl rfl
  rw [← inProtoSet_eq_true_iff]
  refine ⟨fun hset => ?_, fun hbase hz => ?_, fun hset hz => exec_decStd_unknownId (a := ⟨x, ign⟩) s hset hz⟩
  · rw [exec_decStd_ok (a := ⟨x, ign⟩) s hset, stdResult_eq]
    rfl
  · rw [exec_decStd_aliased (a := ⟨x, ign⟩) s hbase hz, stdResult_eq]
    rfl

/-- Settles O9, by the three equations of `DEC_SD`. -/
theorem decSdReadsTheIdentifier : Obligations.DecSdReadsTheIdentifier :=
  ⟨fun _ => decode_append_of_make rfl rfl, fun s _ _ =>
    ⟨fun hbase => exec_decSd_unknownId s hbase, fun hbase hmode => exec_decSd_badArg s hbase hmode,
      fun hbase hmode => exec_decSd_ok s hbase hmode⟩⟩

/-- Settles O10, by the two equations of `DEC_KEY`. -/
theorem decKeyReadsTheIdentifier : Obligations.DecKeyReadsTheIdentifier := by
  refine ⟨fun arg => decode_append_of_make rfl rfl, ?_⟩
  rintro s x ign base rfl
  rw [← isKeyBase_eq_true_iff]
  refine ⟨fun hbase => ?_, fun hbase => exec_decKey_unknownId (a := ⟨x, ign⟩) s hbase⟩
  rw [exec_decKey_ok (a := ⟨x, ign⟩) s hbase, place_zero]
  rfl

/-- Settles O11, by the class of each range; the two single values evaluate. -/
theorem midClassClassifies : Obligations.MidClassClassifies := by
  refine ⟨fun arg => decode_append_of_make rfl rfl, fun s v mbz =>
    ⟨fun hm hv => ?_, fun hm hv => ?_, fun hm hv => ?_, fun hm hv => ?_, fun hm => exec_midClass_badArg s hm⟩⟩
  · subst hv
    exact exec_midClass_ok s hm
  · rw [exec_midClass_ok s hm, modfieldClass_assigned hv]
  · subst hv
    exact exec_midClass_ok s hm
  · rw [exec_midClass_ok s hm, modfieldClass_invalid hv]

/-! ### Decoding what an encoder built -/

theorem stdOperand_stdId {a : ArgES} (h : a.mbz = 0) : stdOperand (stdId a) = a := by
  obtain ⟨modfield, base, mbz⟩ := a
  obtain rfl : mbz = 0 := h
  simp (disch := omega) [stdOperand, stdId, baseShift, bitsOf_or, bitsOf_place_self, bitsOf_place_disjoint]

/-- The mode bit of the identifier stands where the operand has a 0. -/
theorem sdOperand_sdId (a : ArgED) : sdOperand (sdId a) = { a with mbz := 1 } := by
  simp (disch := omega) [sdOperand, ArgED.ofArg, sdId, sdLow, baseShift, bitsOf_or, bitsOf_place_self,
    bitsOf_place_disjoint]

/-- Without the mode bit, the SD operand itself. -/
theorem sdOperand_sdId_mbz_zero {a : ArgED} (h : a.mbz = 0) : { sdOperand (sdId a) with mbz := 0 } = a := by
  rw [sdOperand_sdId, ← h]

theorem keyOperand_keyId {a : ArgEK} (h : a.mbz = 0) : keyOperand (keyId a) = a := by
  obtain ⟨low, chunk, base, mbz⟩ := a
  obtain rfl : mbz = 0 := h
  simp (disch := omega) [keyOperand, keyId, baseShift, bitsOf_or, bitsOf_place_self, bitsOf_place_disjoint]

theorem bitsOf_stdId_base {a : ArgES} (h : a.mbz = 0) : bitsOf (stdId a) 18 11 = a.base :=
  congrArg ArgES.base (stdOperand_stdId h)

theorem bitsOf_sdId_base (a : ArgED) : bitsOf (sdId a) 18 11 = sdDataBase := by
  simp (disch := omega) [sdId, sdLow, baseShift, bitsOf_or, bitsOf_place_self, bitsOf_place_disjoint]

theorem getLsbD_sdId_mode (a : ArgED) : (sdId a).getLsbD 17 = true := by
  simp [sdId, getLsbD_place]

theorem bitsOf_keyId_base {a : ArgEK} (h : a.mbz = 0) : bitsOf (keyId a) 18 11 = a.base :=
  congrArg ArgEK.base (keyOperand_keyId h)

/-- The SD operand that decodes from its identifier, with the mode bit above it. -/
theorem sdOperand_sdId_toArg {a : ArgED} (h : a.mbz = 0) : (sdOperand (sdId a)).toArg = a.toArg ||| 0x20000#32 := by
  have hmode : place (1 : BitVec 15) 17 = 0x20000#32 := rfl
  have hlow : sdLow { a with mbz := 1 } = sdLow a := rfl
  have ha : a.toArg = sdLow a := by simp [argED_toArg_eq, h]
  rw [sdOperand_sdId, argED_toArg_eq, hmode, hlow, ha, BitVec.or_comm]

/-! ### Encoding what a decoder gave -/

/-- An identifier is its base, its middle bits and its module-ID field (R102). -/
theorem place_id_std (x : Word) :
    place (bitsOf x 0 29) 0 = place (bitsOf x 18 11) 18 ||| place (bitsOf x 8 10) 8 ||| place (bitsOf x 0 8) 0 := by
  simp (disch := omega) only [place_bitsOf_or_adjacent]

theorem stdOperand_mbz_eq_zero_iff (x : Word) : (stdOperand x).mbz = 0 ↔ bitsOf x 8 10 = 0 :=
  setWidth_eq_zero_iff (w := 13) (bitsOf x 8 10) (by omega)

theorem stdId_stdOperand {x : Word} (hmid : bitsOf x 8 10 = 0) :
    stdId (stdOperand x) = place (bitsOf x 0 29) 0 := by
  simp [place_id_std, hmid, stdId, stdOperand]

/-- An identifier is its base, its mode bit and its low 17 bits (R103). -/
theorem place_id_sd (x : Word) :
    place (bitsOf x 0 29) 0 = place (bitsOf x 18 11) 18 ||| place (bitsOf x 17 1) 17 ||| sdLow (.ofArg x) := by
  simp (disch := omega) only [sdLow_ofArg, place_bitsOf_or_adjacent]

theorem bitsOf_mode {x : Word} (h : x.getLsbD 17 = true) : bitsOf x 17 1 = 1#1 := by
  ext i hi
  obtain rfl : i = 0 := by omega
  simpa [bitsOf] using h

theorem sdLow_and_low (a : ArgED) : sdLow a &&& 0x1FFFF#32 = sdLow a := by
  rw [← argED_ofArg_toArg a, sdLow_ofArg, place_and_eq_self _ 0 _ (by decide)]

/-- The mask `0x1FFFF` takes the mode bit off the operand again. -/
theorem argED_ofArg_and_low (a : ArgED) : ArgED.ofArg (a.toArg &&& 0x1FFFF#32) = { a with mbz := 0 } := by
  have hmbz : place a.mbz 17 &&& 0x1FFFF#32 = 0 := place_and_eq_zero a.mbz 17 _ (by decide)
  have hmasked : a.toArg &&& 0x1FFFF#32 = ArgED.toArg { a with mbz := 0 } := by
    rw [argED_toArg_eq, BitVec.and_or_distrib_right, hmbz, sdLow_and_low, argED_toArg_eq]
    simp [sdLow]
  rw [hmasked, argED_ofArg_toArg]

theorem sdId_sdOperand {x : Word} (hbase : bitsOf x 18 11 = sdDataBase) (hmode : x.getLsbD 17 = true) :
    sdId { sdOperand x with mbz := 0 } = place (bitsOf x 0 29) 0 := by
  rw [place_id_sd, hbase, bitsOf_mode hmode]
  rfl

/-- A key identifier is encoded again without bits 17..11: the mask covers its other fields (R104). -/
theorem keyId_keyOperand (x : Word) : keyId (keyOperand x) = place (bitsOf x 0 29) 0 &&& 0x1FFC07FF#32 := by
  have hsplit : place (bitsOf x 0 29) 0 = place (bitsOf x 18 11) 18 ||| place (bitsOf x 11 7) 11 |||
      place (bitsOf x 8 3) 8 ||| place (bitsOf x 0 8) 0 := by
    simp (disch := omega) only [place_bitsOf_or_adjacent]
  have hignored : place (bitsOf x 11 7) 11 &&& 0x1FFC07FF#32 = 0#32 := place_and_eq_zero _ 11 _ (by decide)
  simp only [hsplit, BitVec.and_or_distrib_right, hignored,
    place_and_eq_self (bitsOf x 18 11) 18 0x1FFC07FF#32 (by decide),
    place_and_eq_self (bitsOf x 8 3) 8 0x1FFC07FF#32 (by decide),
    place_and_eq_self (bitsOf x 0 8) 0 0x1FFC07FF#32 (by decide), BitVec.or_zero]
  rfl

/-! ### The round trips (R116) -/

theorem exec_decStd_stdId {a : ArgES} (s : State) (hm : a.mbz = 0) (hset : inProtoSet a.base = true) :
    exec (.decStd (.ofArg (stdId a))) s = .next (s.answered s.regs a.toArg .ok) := by
  rw [exec_decStd_ofArg s (by rwa [bitsOf_stdId_base hm]), stdOperand_stdId hm]

theorem exec_decSd_sdId {a : ArgED} (s : State) (hm : a.mbz = 0) :
    exec (.decSd (.ofArg (sdId a))) s = .next (s.answered s.regs (a.toArg ||| 0x20000#32) .ok) := by
  rw [exec_decSd_ofArg s (bitsOf_sdId_base a) (getLsbD_sdId_mode a), sdOperand_sdId_toArg hm]

theorem exec_decKey_keyId {a : ArgEK} (s : State) (hm : a.mbz = 0) (hbase : isKeyBase a.base = true) :
    exec (.decKey (.ofArg (keyId a))) s = .next (s.answered s.regs a.toArg .ok) := by
  rw [exec_decKey_ofArg s (by rwa [bitsOf_keyId_base hm]), keyOperand_keyId hm]

theorem exec_encStd_stdOperand (s : State) {x : Word} (hmid : bitsOf x 8 10 = 0) :
    exec (.encStd (.ofArg (stdOperand x).toArg)) s =
      .next (s.answered s.regs ((x.extractLsb' 0 29).setWidth 32) .ok) := by
  rw [argES_ofArg_toArg, exec_encStd_ok s ((stdOperand_mbz_eq_zero_iff x).mpr hmid), stdId_stdOperand hmid,
    extractLsb'_setWidth_eq_place]

theorem exec_encStd_stdOperand_badArg (s : State) {x : Word} (hmid : bitsOf x 8 10 ≠ 0) :
    exec (.encStd (.ofArg (stdOperand x).toArg)) s = .next (s.answered s.regs 0 .eBadArg) := by
  rw [argES_ofArg_toArg, exec_encStd_badArg s (mt (stdOperand_mbz_eq_zero_iff x).mp hmid)]

theorem exec_encSd_sdOperand (s : State) {x : Word} (hbase : bitsOf x 18 11 = sdDataBase)
    (hmode : x.getLsbD 17 = true) :
    exec (.encSd (.ofArg ((sdOperand x).toArg &&& 0x1FFFF#32))) s =
      .next (s.answered s.regs ((x.extractLsb' 0 29).setWidth 32) .ok) := by
  rw [argED_ofArg_and_low, exec_encSd_ok s rfl, sdId_sdOperand hbase hmode, extractLsb'_setWidth_eq_place]

theorem exec_encKey_keyOperand (s : State) {x : Word} (hbase : isKeyBase (bitsOf x 18 11) = true) :
    exec (.encKey (.ofArg (keyOperand x).toArg)) s =
      .next (s.answered s.regs ((x.extractLsb' 0 29).setWidth 32 &&& 0x1FFC07FF#32) .ok) := by
  rw [argEK_ofArg_toArg, exec_encKey_ok s rfl hbase, keyId_keyOperand, extractLsb'_setWidth_eq_place]

/-- Settles O50: (a) to (c) read the fields of a built identifier back, (d) to (f) build an identifier again from the
fields read. -/
theorem identifierRoundTrips : Obligations.IdentifierRoundTrips := by
  refine ⟨fun a hm hset => ⟨stdId a, fun s => ?_⟩, fun a hm => ⟨sdId a, fun s => ?_⟩,
    fun a hm hkey => ⟨keyId a, fun s => ?_⟩, fun x hset => ⟨(stdOperand x).toArg, fun s => ?_⟩,
    fun x hbase hmode => ⟨(sdOperand x).toArg, fun s => ?_⟩, fun x hkey => ⟨(keyOperand x).toArg, fun s => ?_⟩⟩
  · exact ⟨exec_encStd_ok s hm, exec_decStd_stdId s hm ((inProtoSet_eq_true_iff _).mpr hset)⟩
  · exact ⟨exec_encSd_ok s hm, exec_decSd_sdId s hm⟩
  · have hbase := (isKeyBase_eq_true_iff a.base).mpr hkey
    exact ⟨exec_encKey_ok s hm hbase, exec_decKey_keyId s hm hbase⟩
  · exact ⟨exec_decStd_ofArg s ((inProtoSet_eq_true_iff _).mpr hset), exec_encStd_stdOperand s,
      exec_encStd_stdOperand_badArg s⟩
  · exact ⟨exec_decSd_ofArg s hbase hmode, exec_encSd_sdOperand s hbase hmode⟩
  · have hbase := (isKeyBase_eq_true_iff (bitsOf x 18 11)).mpr hkey
    exact ⟨exec_decKey_ofArg s hbase, exec_encKey_keyOperand s hbase⟩

/-! ### The operands an encoder accepts (R117) -/

theorem answered_inj {s : State} {r r' : Regs} {x y : Word} {st st' : Status}
    (h : (.next (s.answered r x st) : Result) = .next (s.answered r' y st')) : r = r' ∧ x = y ∧ st = st' := by
  simpa [State.answered] using h

/-- A command that checks its must-be-zero bits first answers `OK` only past that check (R76). -/
theorem mbz_zero_of_ok {w : Nat} {mbz : BitVec w} {s : State} {r : Regs} {x : Word} {o : Result}
    (h : (if mbzSet mbz then refuse s .eBadArg 0 else o) = .next (s.answered r x .ok)) :
    mbz = 0 ∧ o = .next (s.answered r x .ok) := by
  split at h
  · obtain ⟨-, -, hst⟩ := answered_inj h
    cases hst
  next hm => exact ⟨(mbzSet_eq_false_iff _).mp (by simpa using hm), h⟩

theorem stdId_of_exec_ok {a : ArgES} {s : State} {x : Word}
    (h : exec (.encStd a) s = .next (s.answered s.regs x .ok)) : a.mbz = 0 ∧ x = stdId a := by
  obtain ⟨hm, h⟩ := mbz_zero_of_ok h
  obtain ⟨-, hx, -⟩ := answered_inj h
  exact ⟨hm, hx.symm⟩

theorem sdId_of_exec_ok {a : ArgED} {s : State} {x : Word}
    (h : exec (.encSd a) s = .next (s.answered s.regs x .ok)) : a.mbz = 0 ∧ x = sdId a := by
  obtain ⟨hm, h⟩ := mbz_zero_of_ok h
  obtain ⟨-, hx, -⟩ := answered_inj h
  exact ⟨hm, hx.symm⟩

theorem keyId_of_exec_ok {a : ArgEK} {s : State} {x : Word}
    (h : exec (.encKey a) s = .next (s.answered s.regs x .ok)) : a.mbz = 0 ∧ x = keyId a := by
  obtain ⟨hm, h⟩ := mbz_zero_of_ok h
  split at h
  · obtain ⟨-, -, hst⟩ := answered_inj h
    cases hst
  · obtain ⟨-, hx, -⟩ := answered_inj h
    exact ⟨hm, hx.symm⟩

theorem stdId_injective {a b : ArgES} (ha : a.mbz = 0) (hb : b.mbz = 0) (h : stdId a = stdId b) : a = b := by
  rw [← stdOperand_stdId ha, h, stdOperand_stdId hb]

theorem keyId_injective {a b : ArgEK} (ha : a.mbz = 0) (hb : b.mbz = 0) (h : keyId a = keyId b) : a = b := by
  rw [← keyOperand_keyId ha, h, keyOperand_keyId hb]

theorem sdId_injective {a b : ArgED} (ha : a.mbz = 0) (hb : b.mbz = 0) (h : sdId a = sdId b) : a = b := by
  rw [← sdOperand_sdId_mbz_zero ha, h, sdOperand_sdId_mbz_zero hb]

theorem bitsOf_stdId_top (a : ArgES) : bitsOf (stdId a) 29 3 = 0 := by
  simp (disch := omega) [stdId, baseShift, bitsOf_or, bitsOf_place_disjoint]

theorem bitsOf_sdId_top (a : ArgED) : bitsOf (sdId a) 29 3 = 0 := by
  simp (disch := omega) [sdId, sdLow, baseShift, bitsOf_or, bitsOf_place_disjoint]

theorem bitsOf_keyId_top (a : ArgEK) : bitsOf (keyId a) 29 3 = 0 := by
  simp (disch := omega) [keyId, baseShift, bitsOf_or, bitsOf_place_disjoint]

/-- Settles O51: an operand accepted with a result has that result as its identifier, and the decoder's reading of the
identifier gives the operand back. -/
theorem encodersAreInjective : Obligations.EncodersAreInjective := by
  refine ⟨fun s a b x ha hb => ?_, fun s a b x ha hb => ?_, fun s a b x ha hb => ?_⟩
  · obtain ⟨hma, rfl⟩ := stdId_of_exec_ok ha
    obtain ⟨hmb, hab⟩ := stdId_of_exec_ok hb
    exact ⟨stdId_injective hma hmb hab, bitsOf_stdId_top a⟩
  · obtain ⟨hma, rfl⟩ := sdId_of_exec_ok ha
    obtain ⟨hmb, hab⟩ := sdId_of_exec_ok hb
    exact ⟨sdId_injective hma hmb hab, bitsOf_sdId_top a⟩
  · obtain ⟨hma, rfl⟩ := keyId_of_exec_ok ha
    obtain ⟨hmb, hab⟩ := keyId_of_exec_ok hb
    exact ⟨keyId_injective hma hmb hab, bitsOf_keyId_top a⟩

end Sys2Proof.Proofs

/-! PROOFS of the statements on the arbiter (spec/41_arbiter.md R140 to R162). First the answers of the common procedure
of the requests, from which the rule of each request is its operand check. Then the selection as a search of the levels
from the highest, the answers of a tick, and from the two the laws of the arbiter. Last the in-flight bits and the
link. -/

namespace Sys2Proof.Proofs

open Sys2Proof.Machine Sys2Proof.Laws

/-! ### The answers of the common procedure (R143) -/

section Request

variable {k : Level} {bad g : Bool} {v : Half} {s : State}

theorem request_badArg (hbad : bad = true) : request k bad g v s = .next (s.answered s.regs 0 .eBadArg) :=
  if_pos hbad

theorem request_linkDown (hbad : bad = false) (hlink : s.regs.link = false) :
    request k bad g v s = .next (s.answered s.regs 0 .eLinkDown) := by
  simp [request, refuse_eq, hbad, hlink]

theorem request_gated (hbad : bad = false) (hlink : s.regs.link = true) (hg : g = true) :
    request k bad g v s = .next (s.answered s.regs 0 .eGated) := by
  simp [request, refuse_eq, hbad, hlink, hg]

theorem request_fresh (hbad : bad = false) (hlink : s.regs.link = true) (hg : g = false)
    (hreq : s.regs.requested k = false) :
    request k bad g v s = .next (s.answered ((s.regs.setReq k).setParam k v) 0 .ok) := by
  simp [request, respond_eq, hbad, hlink, hg, hreq]

theorem request_coalesced (hbad : bad = false) (hlink : s.regs.link = true) (hg : g = false)
    (hreq : s.regs.requested k = true) :
    request k bad g v s =
      .next (s.answered ((s.regs.setReq k).setParam k v) ((s.regs.param k).setWidth 32) .okCoalesced) := by
  simp [request, respond_eq, hbad, hlink, hg, hreq]

end Request

/-! ### The operand checks (R146 to R152) -/

section OperandCheck

variable {w : Nat} {mbz : BitVec w} {v : Byte}

theorem badTarget_check (h : mbz ≠ 0 ∨ 0x1F < v.toNat) : (mbzSet mbz || badTarget v) = true := by
  simpa [mbzSet, badTarget] using h

theorem not_badTarget_check (hm : mbz = 0) (hv : v.toNat ≤ 0x1F) : (mbzSet mbz || badTarget v) = false := by
  simpa [mbzSet, badTarget, hm] using hv

theorem badMaxState_check (h : mbz ≠ 0 ∨ 3 < v.toNat) : (mbzSet mbz || badMaxState v) = true := by
  simpa [mbzSet, badMaxState] using h

theorem not_badMaxState_check (hm : mbz = 0) (hv : v.toNat ≤ 3) : (mbzSet mbz || badMaxState v) = false := by
  simpa [mbzSet, badMaxState, hm] using hv

theorem notModule_check (h : mbz ≠ 0 ∨ v.toNat < 1 ∨ 31 < v.toNat) : (mbzSet mbz || notModule v) = true := by
  simpa only [mbzSet, notModule, nModules, bne_iff_ne, Bool.or_eq_true, decide_eq_true_eq] using h

theorem not_notModule_check (hm : mbz = 0) (hv : 1 ≤ v.toNat ∧ v.toNat ≤ 31) : (mbzSet mbz || notModule v) = false :=
  Bool.or_eq_false_iff.2 ⟨(mbzSet_eq_false_iff _).2 hm, (notModule_eq_false_iff _).2 hv⟩

end OperandCheck

/-! ### The rules of the requests (R146 to R152)

Each is the common procedure at its level; that the flag and the parameter written are the listed ones evaluates. -/

/-- Settles O12, by the answers of `request` at level 1. -/
theorem reqStateLatchesLevelOne : Obligations.ReqStateLatchesLevelOne :=
  ⟨fun _ => decode_append_of_make rfl rfl, fun _ _ _ _ =>
    ⟨fun h => request_badArg (badTarget_check h),
      fun hm hv hlink => request_linkDown (not_badTarget_check hm hv) hlink,
      fun hm hv hlink hreq => request_fresh (not_badTarget_check hm hv) hlink rfl hreq,
      fun hm hv hlink hreq => request_coalesced (not_badTarget_check hm hv) hlink rfl hreq⟩⟩

/-- Settles O13, by the answers of `request` at level 2. -/
theorem reqHeartbeatLatchesLevelTwo : Obligations.ReqHeartbeatLatchesLevelTwo :=
  ⟨fun _ => decode_append_of_make rfl rfl, fun _ _ _ =>
    ⟨fun h => request_badArg (badMaxState_check h),
      fun hm hv hlink => request_linkDown (not_badMaxState_check hm hv) hlink,
      fun hm hv hlink hreq => request_fresh (not_badMaxState_check hm hv) hlink rfl hreq,
      fun hm hv hlink hreq => request_coalesced (not_badMaxState_check hm hv) hlink rfl hreq⟩⟩

/-- Settles O14, by the answers of `request` at level 3, whose gate is the module's bit of `AW_CELL`. -/
theorem reqCellLatchesLevelThree : Obligations.ReqCellLatchesLevelThree :=
  ⟨fun _ => decode_append_of_make rfl rfl, fun _ _ _ _ =>
    ⟨fun h => request_badArg (notModule_check h),
      fun hm hv hlink => request_linkDown (not_notModule_check hm hv) hlink,
      fun hm hv hlink hg => request_gated (not_notModule_check hm hv) hlink hg,
      fun hm hv hlink hg hreq => request_fresh (not_notModule_check hm hv) hlink hg hreq,
      fun hm hv hlink hg hreq => request_coalesced (not_notModule_check hm hv) hlink hg hreq⟩⟩

/-- Settles O15, by the answers of `request` at level 4, whose gate is the module's bit of `AW_STATUS`. -/
theorem reqStatusLatchesLevelFour : Obligations.ReqStatusLatchesLevelFour :=
  ⟨fun _ => decode_append_of_make rfl rfl, fun _ _ _ =>
    ⟨fun h => request_badArg (notModule_check h),
      fun hm hv hlink => request_linkDown (not_notModule_check hm hv) hlink,
      fun hm hv hlink hg => request_gated (not_notModule_check hm hv) hlink hg,
      fun hm hv hlink hg hreq => request_fresh (not_notModule_check hm hv) hlink hg hreq,
      fun hm hv hlink hg hreq => request_coalesced (not_notModule_check hm hv) hlink hg hreq⟩⟩

/-- Settles O16, by the answers of `request` at level 5. -/
theorem reqRegackLatchesLevelFive : Obligations.ReqRegackLatchesLevelFive :=
  ⟨fun _ => decode_append_of_make rfl rfl, fun _ _ _ =>
    ⟨fun h => request_badArg (notModule_check h),
      fun hm hv hlink => request_linkDown (not_notModule_check hm hv) hlink,
      fun hm hv hlink hreq => request_fresh (not_notModule_check hm hv) hlink rfl hreq,
      fun hm hv hlink hreq => request_coalesced (not_notModule_check hm hv) hlink rfl hreq⟩⟩

/-- The operand of format Z that a word holds is the whole of it (R72). -/
theorem argZ_ofArg (arg : Word) : ArgZ.ofArg arg = ⟨arg⟩ :=
  congrArg ArgZ.mk BitVec.extractLsb'_eq_self

/-- Settles O17, by the answers of `request` at level 6. -/
theorem reqTimesyncLatchesLevelSix : Obligations.ReqTimesyncLatchesLevelSix :=
  ⟨fun arg => decode_append_of_make rfl (congrArg _ (argZ_ofArg arg)), fun _ mbz =>
    ⟨fun hm => request_badArg ((mbzSet_eq_true_iff mbz).2 hm),
      fun hm hlink => request_linkDown ((mbzSet_eq_false_iff mbz).2 hm) hlink,
      fun hm hlink hreq => request_fresh ((mbzSet_eq_false_iff mbz).2 hm) hlink rfl hreq,
      fun hm hlink hreq => request_coalesced ((mbzSet_eq_false_iff mbz).2 hm) hlink rfl hreq⟩⟩

/-- Settles O18, by the answers of `request` at level 7. -/
theorem reqAnnounceLatchesLevelSeven : Obligations.ReqAnnounceLatchesLevelSeven :=
  ⟨fun arg => decode_append_of_make rfl (congrArg _ (argZ_ofArg arg)), fun _ mbz =>
    ⟨fun hm => request_badArg ((mbzSet_eq_true_iff mbz).2 hm),
      fun hm hlink => request_linkDown ((mbzSet_eq_false_iff mbz).2 hm) hlink,
      fun hm hlink hreq => request_fresh ((mbzSet_eq_false_iff mbz).2 hm) hlink rfl hreq,
      fun hm hlink hreq => request_coalesced ((mbzSet_eq_false_iff mbz).2 hm) hlink rfl hreq⟩⟩

/-! ### The selection (R153) -/

theorem mem_allLevels (k : Level) : k ∈ allLevels := by
  cases k <;> decide

theorem allLevels_pairwise_num_lt : allLevels.Pairwise (fun j k => j.num < k.num) := by decide

theorem allLevels_nodup : allLevels.Nodup := by decide

/-- The selection is a search of the levels from the highest. -/
theorem sel_eq_find? (req : Byte) : sel req = allLevels.find? (fun k => req.getLsbD k.num) := by
  simp only [sel, allLevels, List.find?_cons, List.find?_nil, Level.num]
  repeat' split
  all_goals simp_all

theorem sel_eq_none_iff (req : Byte) : sel req = none ↔ ∀ k : Level, req.getLsbD k.num = false := by
  simp [sel_eq_find?, mem_allLevels]

theorem getLsbD_of_sel {req : Byte} {k : Level} (h : sel req = some k) : req.getLsbD k.num = true := by
  rw [sel_eq_find?] at h
  simpa using List.find?_some h

/-- The levels before the one found come before it in `allLevels`, and the search passed over them. -/
theorem getLsbD_false_of_lt_sel {req : Byte} {j k : Level} (h : sel req = some k) (hjk : j.num < k.num) :
    req.getLsbD j.num = false := by
  rw [sel_eq_find?, List.find?_eq_some_iff_append] at h
  obtain ⟨-, before, after, hsplit, hclear⟩ := h
  have hsorted := allLevels_pairwise_num_lt
  have hmem := mem_allLevels j
  rw [hsplit] at hsorted hmem
  obtain ⟨-, hk, -⟩ := List.pairwise_append.1 hsorted
  rcases List.mem_append.1 hmem with hj | hj
  · simpa using hclear j hj
  · rcases List.mem_cons.1 hj with rfl | hj
    · omega
    · have := (List.pairwise_cons.1 hk).1 j hj
      omega

theorem sel_eq_some_iff (req : Byte) (k : Level) :
    sel req = some k ↔
      req.getLsbD k.num = true ∧ ∀ j : Level, j.num < k.num → req.getLsbD j.num = false := by
  refine ⟨fun h => ⟨getLsbD_of_sel h, fun j => getLsbD_false_of_lt_sel h⟩, fun ⟨hset, hleast⟩ => ?_⟩
  cases hsel : sel req with
  | none => simp [(sel_eq_none_iff req).1 hsel k] at hset
  | some j =>
    rcases Nat.lt_trichotomy j.num k.num with hlt | heq | hgt
    · exact absurd (getLsbD_of_sel hsel) (by simp [hleast j hlt])
    · rw [level_num_injective heq]
    · simp [getLsbD_false_of_lt_sel hsel hgt] at hset

/-- Settles O19, by what the search of the levels finds. -/
theorem selectionIsTheLeastSetLevel : Obligations.SelectionIsTheLeastSetLevel :=
  fun req => ⟨sel_eq_none_iff req, rfl, sel_eq_some_iff req⟩

/-! ### The answers of a tick (R154) -/

section Tick

variable {s : State} {k : Level}

theorem exec_arbTick_badArg {a : ArgT} (h : a.mbz ≠ 0) :
    exec (.arbTick a) s = .next (s.answered s.regs 0 .eBadArg) :=
  if_pos ((mbzSet_eq_true_iff _).2 h)

theorem exec_arbTick_linkDown (ready : BitVec 1) (hlink : s.regs.link = false) :
    exec (.arbTick ⟨ready, 0⟩) s = .next (s.answered s.regs 0 .eLinkDown) := by
  simp [exec, execArbTick, mbzSet, refuse_eq, hlink]

theorem exec_arbTick_idle (ready : BitVec 1) (hlink : s.regs.link = true) (hsel : sel s.regs.req = none) :
    exec (.arbTick ⟨ready, 0⟩) s = .next (s.answered s.regs 0 .okIdle) := by
  simp [exec, execArbTick, mbzSet, respond_eq, hlink, hsel]

theorem exec_arbTick_grant (hlink : s.regs.link = true) (hsel : sel s.regs.req = some k) :
    exec (.arbTick ⟨1, 0⟩) s = .next (s.answered (grantRegs s.regs k) (grantWord s.regs k) .ok) := by
  simp [exec, execArbTick, mbzSet, respond_eq, hlink, hsel]

theorem exec_arbTick_drop (hlink : s.regs.link = true) (hsel : sel s.regs.req = some k)
    (honce : s.regs.oneShot k = true) :
    exec (.arbTick ⟨0, 0⟩) s = .next (s.answered (s.regs.clearReq k) (grantWord s.regs k) .txDropped) := by
  simp [exec, execArbTick, mbzSet, respond_eq, hlink, hsel, honce]

theorem exec_arbTick_busy (hlink : s.regs.link = true) (hsel : sel s.regs.req = some k)
    (hretry : s.regs.oneShot k = false) :
    exec (.arbTick ⟨0, 0⟩) s = .next (s.answered s.regs (grantWord s.regs k) .eTxBusy) := by
  simp [exec, execArbTick, mbzSet, refuse_eq, hlink, hsel, hretry]

end Tick

/-- The registers after a grant, register by register. -/
theorem grantRegs_eq (r : Regs) (k : Level) :
    grantRegs r k =
      { r with
        req := clearBit r.req k.num
        awCell := if k = .cellDetail then setBit r.awCell (lowByte r.param3).toNat else r.awCell
        awStatus := if k = .status then setBit r.awStatus (lowByte r.param4).toNat else r.awStatus } := by
  cases k <;> rfl

/-- Settles O20, by the answers of a tick with the least set level as the selected one. -/
theorem arbTickServesTheSelectedLevel : Obligations.ArbTickServesTheSelectedLevel := by
  refine ⟨fun arg => decode_append_of_make rfl rfl, fun s => ⟨fun ready mbz hm => exec_arbTick_badArg hm,
    exec_arbTick_linkDown, fun ready hlink hclear => exec_arbTick_idle ready hlink ((sel_eq_none_iff _).2 hclear), ?_⟩⟩
  rintro k g hlink hset hleast rfl
  have hsel := (sel_eq_some_iff s.regs.req k).2 ⟨hset, hleast⟩
  refine ⟨?_, exec_arbTick_drop hlink hsel, exec_arbTick_busy hlink hsel⟩
  rw [exec_arbTick_grant hlink hsel, grantRegs_eq]
  rfl

/-- A tick keeps the registers, or it is granted or drops the selected level and clears that level's flag alone. -/
theorem arbTick_keeps_or_serves {a : ArgT} {s t : State} (h : exec (.arbTick a) s = .next t) :
    (∃ res st, st ≠ .ok ∧ st ≠ .txDropped ∧ t = s.answered s.regs res st) ∨
    ∃ k r st, a.mbz = 0 ∧ sel s.regs.req = some k ∧ (st = .ok ∨ st = .txDropped) ∧
      r.req = clearBit s.regs.req k.num ∧ (∀ j, r.param j = s.regs.param j) ∧
      t = s.answered r (grantWord s.regs k) st := by
  obtain ⟨ready, mbz⟩ := a
  by_cases hm : mbz = 0
  case neg =>
    cases (exec_arbTick_badArg hm).symm.trans h
    exact .inl ⟨_, _, by decide, by decide, rfl⟩
  subst hm
  cases hlink : s.regs.link with
  | false =>
    cases (exec_arbTick_linkDown ready hlink).symm.trans h
    exact .inl ⟨_, _, by decide, by decide, rfl⟩
  | true =>
    cases hsel : sel s.regs.req with
    | none =>
      cases (exec_arbTick_idle ready hlink hsel).symm.trans h
      exact .inl ⟨_, _, by decide, by decide, rfl⟩
    | some k =>
      obtain rfl | rfl := BitVec.eq_zero_or_eq_one ready
      · cases honce : s.regs.oneShot k with
        | true =>
          cases (exec_arbTick_drop hlink hsel honce).symm.trans h
          exact .inr ⟨k, _, _, rfl, rfl, .inr rfl, rfl, clearReq_param _ _, rfl⟩
        | false =>
          cases (exec_arbTick_busy hlink hsel honce).symm.trans h
          exact .inl ⟨_, _, by decide, by decide, rfl⟩
      · cases (exec_arbTick_grant hlink hsel).symm.trans h
        exact .inr ⟨k, _, _, rfl, rfl, .inl rfl, grantRegs_req _ _, fun j => grantRegs_param _ _ _, rfl⟩

/-! ### The order of service (R141, R162 (b) and (c)) -/

/-- The grant word names its level. -/
theorem grantWord_level_injective {r : Regs} {j k : Level} (h : grantWord r j = grantWord r k) : j = k := by
  have hnum := congrArg BitVec.toNat h
  have hj := (r.param j).isLt
  have hk := (r.param k).isLt
  rw [grantWord_toNat, grantWord_toNat] at hnum
  exact level_num_injective (by omega)

/-- Settles O54: what a tick serves is the selected level, and that is not above the set level `i`. -/
theorem higherLevelIsServedFirst : Obligations.HigherLevelIsServedFirst := by
  intro s t a i j hij hi hj h
  obtain ⟨res, st, hok, hdrop, rfl⟩ | ⟨k, r, st, -, hsel, -, hreq, hparam, rfl⟩ := arbTick_keeps_or_serves h
  · exact ⟨hj, rfl, by simp [hok], by simp [hdrop]⟩
  · have hki : ¬i.num < k.num := fun hlt => by simp [getLsbD_false_of_lt_sel hsel hlt] at hi
    have hjk : j.num ≠ k.num := by omega
    have hword : grantWord s.regs k ≠ grantWord s.regs j := fun e => hjk (by rw [grantWord_level_injective e])
    exact ⟨by simp [hreq, hj, hjk], hparam j, by simp [hword], by simp [hword]⟩

/-- A command that is no tick and clears a flag of a consistent state is `LINK_DOWN` or `SOFT_RESET`: `LINK_UP` writes
`REQ` only with the link down, and then no flag was set (R34 (b)). -/
theorem tick_or_down_or_reset_of_clears {i : Instr} {s t : State} {k : Level} (h : ArbEffect s i t)
    (hs : s.regs.Consistent) (hset : s.regs.req.getLsbD k.num = true) (hclear : t.regs.req.getLsbD k.num = false) :
    (∃ a, i = .arbTick a) ∨ i = .linkDown ⟨0⟩ ∨ i = .softReset ⟨0⟩ := by
  cases h with
  | softReset => exact .inr (.inr rfl)
  | linkDown => exact .inr (.inl rfl)
  | grant | drop => exact .inl ⟨_, rfl⟩
  | same | latch | clrStatus | clrCell | clrModule => simp [hset] at hclear
  | linkUp hdown =>
    obtain ⟨-, hquiet, -⟩ := hs
    obtain ⟨hreq, -⟩ := hquiet hdown
    simp [hreq] at hset

/-- Settles O55: a tick that clears the flag serves its level, which is then the selected one. -/
theorem setFlagIsClearedOnlyByItsOwnService : Obligations.SetFlagIsClearedOnlyByItsOwnService := by
  intro i s t k hs h hset hclear
  obtain ⟨a, rfl⟩ | hother := tick_or_down_or_reset_of_clears (exec_hasArbEffect i s t h) hs hset hclear
  · obtain ⟨res, st, -, -, rfl⟩ | ⟨j, r, st, hm, hsel, hst, hreq, -, rfl⟩ := arbTick_keeps_or_serves h
    · simp [hset] at hclear
    · have hkj : k.num = j.num := by simpa [hreq, hset] using hclear
      obtain rfl := level_num_injective hkj
      obtain ⟨ready, mbz⟩ := a
      obtain rfl : mbz = 0 := hm
      refine .inl ⟨ready, rfl, fun j => getLsbD_false_of_lt_sel hsel, ?_⟩
      obtain rfl | rfl := hst
      · exact .inl rfl
      · exact .inr rfl
  · exact .inr hother

/-! ### The number of set flags (R162 (a) and (d)) -/

theorem pendingCount_eq_zero_iff (req : Byte) : pendingCount req = 0 ↔ ∀ k : Level, req.getLsbD k.num = false := by
  simp [pendingCount, mem_allLevels]

theorem pendingCount_le (req : Byte) : pendingCount req ≤ 7 := List.length_filter_le _ _

/-- The list of set levels loses exactly the one that is cleared. -/
theorem pendingCount_clearBit {req : Byte} {k : Level} (h : req.getLsbD k.num = true) :
    pendingCount (clearBit req k.num) + 1 = pendingCount req := by
  have herase : allLevels.filter (fun j => (clearBit req k.num).getLsbD j.num) =
      (allLevels.filter (fun j => req.getLsbD j.num)).erase k := by
    rw [(allLevels_nodup.filter _).erase_eq_filter, List.filter_filter]
    refine List.filter_congr fun j _ => ?_
    have hnum : j.num = k.num ↔ j = k := ⟨level_num_injective, congrArg _⟩
    rw [getLsbD_clearBit, Bool.and_comm, decide_eq_decide.2 hnum, bne, beq_eq_decide]
  rw [pendingCount, herase]
  exact List.length_erase_add_one (List.mem_filter.2 ⟨mem_allLevels k, h⟩)

/-- With the link up a ready tick takes one request, if there is any, and leaves the link up. -/
theorem exec_readyTick {s : State} (hlink : s.regs.link = true) :
    ∃ t, exec (.arbTick ⟨1, 0⟩) s = .next t ∧ t.regs.link = true ∧ t.pending = s.pending ∧
      pendingCount t.regs.req = pendingCount s.regs.req - 1 := by
  cases hsel : sel s.regs.req with
  | none =>
    have hzero := (pendingCount_eq_zero_iff _).2 ((sel_eq_none_iff _).1 hsel)
    exact ⟨_, exec_arbTick_idle 1 hlink hsel, hlink, rfl, by simp [hzero]⟩
  | some k =>
    have hcount := pendingCount_clearBit (getLsbD_of_sel hsel)
    exact ⟨_, exec_arbTick_grant hlink hsel, by simpa using hlink, rfl, by rw [answered_regs, grantRegs_req]; omega⟩

/-- Settles O52: a set flag makes the count positive, and the tick takes one. -/
theorem tickLowersThePendingCountByOne : Obligations.TickLowersThePendingCountByOne := by
  intro s k hlink hset
  obtain ⟨t, ht, -, -, hcount⟩ := exec_readyTick hlink
  have hpos : pendingCount s.regs.req ≠ 0 := fun h0 => by simp [(pendingCount_eq_zero_iff _).1 h0 k] at hset
  exact ⟨t, ht, by omega⟩

theorem run_succ_of_step {s t : State} (n : Nat) (h : step s = .next t) :
    Host.Core.run Sys2Proof.core (n + 1) s = Host.Core.run Sys2Proof.core n t := by
  have hcore : Sys2Proof.core.step s = .next t := h
  simp only [Host.Core.run, hcore]

/-- `n` ready ticks at the port take up to `n` requests. -/
theorem run_readyTicks (n : Nat) {s : State} {rest : List CmdWord} (hlink : s.regs.link = true)
    (hp : s.pending = List.replicate n 0x2800000001#40 ++ rest) :
    ∃ t : State, Host.Core.run Sys2Proof.core n s = .next t ∧ t.pending = rest ∧
      pendingCount t.regs.req = pendingCount s.regs.req - n := by
  induction n generalizing s with
  | zero => exact ⟨s, rfl, hp, rfl⟩
  | succ n ih =>
    have hdecode : decode 0x2800000001#40 = .ok (.arbTick ⟨1, 0⟩) := rfl
    have hstep := step_of_decode_ok (by rwa [List.replicate_succ, List.cons_append] at hp) hdecode
    obtain ⟨u, hu, hulink, hup, hucount⟩ :=
      exec_readyTick (s := { s with pending := List.replicate n 0x2800000001#40 ++ rest }) hlink
    obtain ⟨t, hrun, htp, htcount⟩ := ih hulink hup
    have hcount : pendingCount t.regs.req = pendingCount s.regs.req - 1 - n := by rw [htcount, hucount]
    exact ⟨t, (run_succ_of_step n (hstep.trans hu)).trans hrun, htp, by omega⟩

/-- Settles O53: there are at most seven requests, and seven ticks take them. -/
theorem sevenTicksEmptyTheRequests : Obligations.SevenTicksEmptyTheRequests := by
  intro s rest hlink hp
  obtain ⟨t, hrun, htp, hcount⟩ := run_readyTicks 7 hlink hp
  have hle := pendingCount_le s.regs.req
  exact ⟨t, hrun, htp, (pendingCount_eq_zero_iff _).1 (by omega)⟩

/-! ### Clearing the in-flight bits (R156 to R158) -/

/-- Settles O21: past the operand check both commands answer the old bit. -/
theorem awaitClearReturnsTheOldBit : Obligations.AwaitClearReturnsTheOldBit :=
  ⟨fun _ => decode_append_of_make rfl rfl, fun _ => decode_append_of_make rfl rfl, fun _ _ _ =>
    ⟨fun h => ⟨if_pos (notModule_check h), if_pos (notModule_check h)⟩,
      fun hm hv => ⟨if_neg (Bool.eq_false_iff.1 (not_notModule_check hm hv)),
        if_neg (Bool.eq_false_iff.1 (not_notModule_check hm hv))⟩⟩⟩

/-- Settles O22: past the operand check the command answers both old bits. -/
theorem awaitClearModuleClearsBothBits : Obligations.AwaitClearModuleClearsBothBits :=
  ⟨fun _ => decode_append_of_make rfl rfl, fun _ _ _ =>
    ⟨fun h => if_pos (notModule_check h), fun hm hv => if_neg (Bool.eq_false_iff.1 (not_notModule_check hm hv))⟩⟩

/-! ### The link (R160, R161) -/

theorem exec_linkDown_ok (s : State) :
    exec (.linkDown ⟨0⟩) s = .next (s.answered
      { s.regs with link := false, req := 0, awStatus := 0, awCell := 0 } (s.regs.req.setWidth 32) .ok) := rfl

/-- What `LINK_DOWN` writes is what R34 (b) finds with the link down. -/
theorem cancelled_eq_self {r : Regs} (h : r.Consistent) (hlink : r.link = false) :
    { r with link := false, req := 0, awStatus := 0, awCell := 0 } = r := by
  obtain ⟨-, hquiet, -⟩ := h
  obtain ⟨hreq, hs, hc⟩ := hquiet hlink
  cases r
  simp_all only

/-- Settles O23: with the link down in a state of R34 there is nothing to cancel. -/
theorem linkDownCancelsEverything : Obligations.LinkDownCancelsEverything := by
  refine ⟨fun arg => decode_append_of_make rfl (congrArg _ (argZ_ofArg arg)), fun s =>
    ⟨exec_linkDown_ok s, fun hs hlink => ?_, fun mbz hm => if_pos ((mbzSet_eq_true_iff mbz).2 hm)⟩⟩
  have hself := cancelled_eq_self hs hlink
  have hreq : s.regs.req = 0 := (congrArg Regs.req hself).symm
  rw [exec_linkDown_ok, hself, hreq]
  rfl

/-- Settles O24, by the two branches of `LINK_UP` on the link. -/
theorem linkUpActsOnTheChange : Obligations.LinkUpActsOnTheChange :=
  ⟨fun arg => decode_append_of_make rfl (congrArg _ (argZ_ofArg arg)), fun _ =>
    ⟨fun hlink => if_pos hlink, fun hlink => if_neg (Bool.eq_false_iff.1 hlink),
      fun mbz hm => if_pos ((mbzSet_eq_true_iff mbz).2 hm)⟩⟩

end Sys2Proof.Proofs

/-! PROOFS of the statements on the checksum unit (spec/42_checksum.md R190 to R208). First the CRC update as eight
linear shifts of one shape for both forms, from which the laws of the CRC follow, then the laws of the XOR-8, then what
each command may write, and last the rules of the commands. -/

namespace Sys2Proof.Proofs

open Sys2Proof.Machine Sys2Proof.Laws

/-! ### The CRC update in one shape for both forms (R190, R191) -/

/-- One bit of the CRC update, in the form that the parameters choose. -/
def crcShift (p : Params) : Half → Half :=
  if p.crcReflect then crcShiftRight p.crcPoly else crcShiftLeft p.crcPoly

/-- A fed byte where the form takes it in: at the low end, or at the high end of the register. -/
def crcAlign (p : Params) (b : Byte) : Half :=
  if p.crcReflect then b.setWidth 16 else b.setWidth 16 <<< 8

theorem repeatStep_eq_iterate (f : Half → Half) (n : Nat) : repeatStep f n = f^[n] := by
  induction n with
  | zero => rfl
  | succ n ih => exact congrArg (· ∘ f) ih

theorem crcUpdate_eq (p : Params) (crc : Half) (b : Byte) :
    crcUpdate p crc b = (crcShift p)^[8] (crc ^^^ crcAlign p b) := by
  cases hr : p.crcReflect <;> simp [crcUpdate, crcShift, crcAlign, hr, repeatStep_eq_iterate]

/-- The polynomial is added exactly when a 1 is shifted out. -/
theorem crcShiftLeft_eq (poly c : Half) :
    crcShiftLeft poly c = (c <<< 1) ^^^ (if c.getLsbD 15 then poly else 0) := by
  rw [crcShiftLeft]
  split
  · rfl
  · exact BitVec.xor_zero.symm

theorem crcShiftRight_eq (poly c : Half) :
    crcShiftRight poly c = (c >>> 1) ^^^ (if c.getLsbD 0 then rev16 poly else 0) := by
  rw [crcShiftRight]
  split
  · rfl
  · exact BitVec.xor_zero.symm

theorem getLsbD_rev16 (x : Half) {i : Nat} (h : i < 16) : (rev16 x).getLsbD i = x.getLsbD (15 - i) :=
  BitVec.getLsbD_reverse.trans (by simp only [BitVec.getMsbD, h, decide_true, Bool.true_and])

/-! ### Linearity (R208 (b)) -/

/-- The feedback of the bit shifted out is linear in that bit. -/
theorem ite_xor_ite (a b : Bool) (q : Half) :
    (if a ^^ b then q else 0) = (if a then q else 0) ^^^ (if b then q else 0) := by
  cases a <;> cases b <;> simp

theorem crcShiftLeft_xor (poly x y : Half) :
    crcShiftLeft poly (x ^^^ y) = crcShiftLeft poly x ^^^ crcShiftLeft poly y := by
  simp only [crcShiftLeft_eq, BitVec.shiftLeft_xor_distrib, BitVec.getLsbD_xor, ite_xor_ite]
  ac_rfl

theorem crcShiftRight_xor (poly x y : Half) :
    crcShiftRight poly (x ^^^ y) = crcShiftRight poly x ^^^ crcShiftRight poly y := by
  simp only [crcShiftRight_eq, BitVec.ushiftRight_xor_distrib, BitVec.getLsbD_xor, ite_xor_ite]
  ac_rfl

theorem crcShift_xor (p : Params) : Function.Semiconj₂ (crcShift p) (· ^^^ ·) (· ^^^ ·) := by
  unfold crcShift
  split
  · exact crcShiftRight_xor p.crcPoly
  · exact crcShiftLeft_xor p.crcPoly

theorem crcAlign_xor (p : Params) (a b : Byte) : crcAlign p (a ^^^ b) = crcAlign p a ^^^ crcAlign p b := by
  unfold crcAlign
  split
  · exact BitVec.setWidth_xor
  · rw [BitVec.setWidth_xor, BitVec.shiftLeft_xor_distrib]

/-- The update is linear in the register and the byte together. -/
theorem crcUpdate_xor (p : Params) (c d : Half) (a b : Byte) :
    crcUpdate p (c ^^^ d) (a ^^^ b) = crcUpdate p c a ^^^ crcUpdate p d b := by
  have hin : c ^^^ d ^^^ crcAlign p (a ^^^ b) = (c ^^^ crcAlign p a) ^^^ (d ^^^ crcAlign p b) := by
    rw [crcAlign_xor]
    ac_rfl
  rw [crcUpdate_eq, crcUpdate_eq, crcUpdate_eq, hin, ((crcShift_xor p).iterate 8).eq]

theorem crcFeed_xor (p : Params) (xs ys : List Byte) (c d : Half) (h : xs.length = ys.length) :
    crcFeed p (c ^^^ d) (List.zipWith (· ^^^ ·) xs ys) = crcFeed p c xs ^^^ crcFeed p d ys := by
  induction xs generalizing ys c d with
  | nil =>
    cases ys with
    | nil => rfl
    | cons y ys => cases h
  | cons x xs ih =>
    cases ys with
    | nil => cases h
    | cons y ys =>
      rw [List.zipWith_cons_cons, crcFeed_cons, crcFeed_cons, crcFeed_cons, crcUpdate_xor]
      exact ih ys _ _ (Nat.succ.inj h)

/-- Settles O58, by linearity twice: the start value is the exclusive-or of itself three times. -/
theorem crcIsAffine : Obligations.CrcIsAffine := by
  intro p init xs ys zs hxy hyz
  have hlen : (List.zipWith (· ^^^ ·) xs ys).length = zs.length := by
    rw [List.length_zipWith, hxy, Nat.min_self, hyz]
  have hinit : init = init ^^^ init ^^^ init := by simp
  conv_lhs => rw [hinit]
  rw [crcFeed_xor p _ zs _ _ hlen, crcFeed_xor p xs ys _ _ hxy]

/-! ### The update loses nothing (R208 (a) and (c)) -/

/-- With bit 0 of the polynomial set, the bit shifted out stands in bit 0 of the result. -/
theorem getLsbD_crcShiftLeft_zero {poly : Half} (hp : poly.getLsbD 0 = true) (c : Half) :
    (crcShiftLeft poly c).getLsbD 0 = c.getLsbD 15 := by
  rw [crcShiftLeft_eq, BitVec.getLsbD_xor]
  cases c.getLsbD 15 <;> simp [hp]

/-- In the reflected form it stands in bit 15. -/
theorem getLsbD_crcShiftRight_last {poly : Half} (hp : poly.getLsbD 0 = true) (c : Half) :
    (crcShiftRight poly c).getLsbD 15 = c.getLsbD 0 := by
  have hq : (rev16 poly).getLsbD 15 = true := (getLsbD_rev16 poly (by decide)).trans hp
  rw [crcShiftRight_eq, BitVec.getLsbD_xor]
  cases c.getLsbD 0 <;> simp [hq]

theorem crcShiftLeft_injective {poly : Half} (hp : poly.getLsbD 0 = true) :
    Function.Injective (crcShiftLeft poly) := by
  intro x y h
  have hout : x.getLsbD 15 = y.getLsbD 15 := by
    rw [← getLsbD_crcShiftLeft_zero hp, h, getLsbD_crcShiftLeft_zero hp]
  have hshift : x <<< 1 = y <<< 1 := by
    rwa [crcShiftLeft_eq, crcShiftLeft_eq, hout, BitVec.xor_left_inj] at h
  refine BitVec.eq_of_getLsbD_eq fun i hi => ?_
  obtain rfl | hlt : i = 15 ∨ i + 1 < 16 := by omega
  · exact hout
  · simpa [hlt, hi] using congrArg (·.getLsbD (i + 1)) hshift

theorem crcShiftRight_injective {poly : Half} (hp : poly.getLsbD 0 = true) :
    Function.Injective (crcShiftRight poly) := by
  intro x y h
  have hout : x.getLsbD 0 = y.getLsbD 0 := by
    rw [← getLsbD_crcShiftRight_last hp, h, getLsbD_crcShiftRight_last hp]
  have hshift : x >>> 1 = y >>> 1 := by
    rwa [crcShiftRight_eq, crcShiftRight_eq, hout, BitVec.xor_left_inj] at h
  refine BitVec.eq_of_getLsbD_eq fun i _ => ?_
  cases i with
  | zero => exact hout
  | succ i => simpa [Nat.add_comm] using congrArg (·.getLsbD i) hshift

theorem crcShift_injective {p : Params} (hp : p.crcPoly.getLsbD 0 = true) : Function.Injective (crcShift p) := by
  unfold crcShift
  split
  · exact crcShiftRight_injective hp
  · exact crcShiftLeft_injective hp

theorem crcAlign_injective (p : Params) : Function.Injective (crcAlign p) := by
  intro a b h
  refine BitVec.eq_of_getLsbD_eq fun i hi => ?_
  cases hr : p.crcReflect with
  | true =>
    have h16 : i < 16 := by omega
    simpa [crcAlign, hr, h16] using congrArg (·.getLsbD i) h
  | false =>
    have h16 : i + 8 < 16 := by omega
    have h16' : i < 16 := by omega
    simpa [crcAlign, hr, h16, h16'] using congrArg (·.getLsbD (i + 8)) h

theorem crcUpdate_injective_register {p : Params} (hp : p.crcPoly.getLsbD 0 = true) (b : Byte) :
    Function.Injective (fun crc => crcUpdate p crc b) := by
  intro c d h
  simp only [crcUpdate_eq] at h
  exact (BitVec.xor_left_inj _).1 ((crcShift_injective hp).iterate 8 h)

theorem crcUpdate_injective_byte {p : Params} (hp : p.crcPoly.getLsbD 0 = true) (crc : Half) :
    Function.Injective (crcUpdate p crc) := by
  intro a b h
  rw [crcUpdate_eq, crcUpdate_eq] at h
  exact crcAlign_injective p ((BitVec.xor_right_inj _).1 ((crcShift_injective hp).iterate 8 h))

theorem crcFeed_injective {p : Params} (hp : p.crcPoly.getLsbD 0 = true) (bs : List Byte) :
    Function.Injective (fun crc => crcFeed p crc bs) := by
  induction bs with
  | nil => exact Function.injective_id
  | cons b bs ih => exact ih.comp (crcUpdate_injective_register hp b)

/-- Settles O57: each of the eight shifts is injective, and the register is finite. -/
theorem crcUpdateIsABijection : Obligations.CrcUpdateIsABijection :=
  fun _ b hp => Finite.injective_iff_bijective.1 (crcUpdate_injective_register hp b)

theorem xor_bit_ne_self (b : Byte) {i : Nat} (hi : i < 8) : b ≠ b ^^^ (1#8 <<< i) := by
  intro h
  have hbit := congrArg (·.getLsbD i) h
  simp [hi] at hbit

/-- Settles O59: the register differs after the changed byte, and the bytes after it keep it different. -/
theorem singleBitChangeChangesTheCrc : Obligations.SingleBitChangeChangesTheCrc := by
  intro p init before after b i hp hi h
  rw [crcFeed_append, crcFeed_append] at h
  exact xor_bit_ne_self b hi (crcUpdate_injective_byte hp _ (crcFeed_injective hp after h))

/-! ### The XOR-8 (R208 (d) and (e)) -/

/-- Settles O60: exclusive-or is commutative and associative, and its own inverse. -/
theorem xorSumIgnoresOrderAndCancels : Obligations.XorSumIgnoresOrderAndCancels := by
  refine ⟨fun x xs ys h => h.foldl_eq x, fun xs => ?_⟩
  rw [xorFeed_append, xorFeed_cons, xorFeed_nil]
  exact BitVec.xor_self

/-! ### What each command may write (the State written lines, R208 (f)) -/

/-- Two register files agree on every register that `w` does not list. -/
def AgreeOutside (w : List RegName) (r r' : Regs) : Prop := ∀ n ∉ w, r.Agree n r'

theorem agreeOutside_iff (w : List RegName) (r r' : Regs) :
    AgreeOutside w r r' ↔
      (.cfg ∈ w ∨ r.cfg = r'.cfg) ∧ (.req ∈ w ∨ r.req = r'.req) ∧ (∀ k, .param k ∈ w ∨ r.param k = r'.param k) ∧
      (.awStatus ∈ w ∨ r.awStatus = r'.awStatus) ∧ (.awCell ∈ w ∨ r.awCell = r'.awCell) ∧
      (.link ∈ w ∨ r.link = r'.link) ∧ (.crc ∈ w ∨ r.crc = r'.crc) ∧ (.xsum ∈ w ∨ r.xsum = r'.xsum) := by
  simp only [or_iff_not_imp_left]
  constructor
  · intro h
    exact ⟨h .cfg, h .req, fun k => h (.param k), h .awStatus, h .awCell, h .link, h .crc, h .xsum⟩
  · rintro ⟨hcfg, hreq, hparam, hstatus, hcell, hlink, hcrc, hxsum⟩ n
    cases n with
    | cfg => exact hcfg
    | req => exact hreq
    | param k => exact hparam k
    | awStatus => exact hstatus
    | awCell => exact hcell
    | link => exact hlink
    | crc => exact hcrc
    | xsum => exact hxsum

theorem agreeOutside_rfl {w : List RegName} {r : Regs} : AgreeOutside w r r := by
  simp [agreeOutside_iff]

/-- The parameters are read from the seven parameter registers alone. -/
theorem param_of_update (r : Regs) (cfg req : Byte) (awStatus awCell : Word) (link : Bool) (crc : Half) (xsum : Byte)
    (k : Level) :
    Regs.param { r with cfg, req, awStatus, awCell, link, crc, xsum } k = r.param k := by
  cases k <;> rfl

/-- R143: a latch writes the flag and the parameter of its level. -/
theorem agreeOutside_latch (r : Regs) (k : Level) (v : Half) :
    AgreeOutside [.req, .param k] r ((r.setReq k).setParam k v) := by
  have hparam (j : Level) : j = k ∨ r.param j = ((r.setReq k).setParam k v).param j := by
    rw [or_iff_not_imp_left]
    intro hjk
    rw [setParam_param_ne _ _ _ _ hjk, setReq_param]
  simpa [agreeOutside_iff] using hparam

/-- R154: a grant writes the flag and at most one in-flight bit. -/
theorem agreeOutside_grant (r : Regs) (k : Level) : AgreeOutside [.req, .awStatus, .awCell] r (grantRegs r k) := by
  simp [agreeOutside_iff]

theorem agreeOutside_clearReq (r : Regs) (k : Level) :
    AgreeOutside [.req, .awStatus, .awCell] r (r.clearReq k) := by
  simp [agreeOutside_iff]

/-- R161: the parameter that `LINK_UP` writes is that of the announce request. -/
theorem agreeOutside_linkUp (r : Regs) (link : Bool) (awStatus awCell : Word) (req : Byte) (param7 : Half) :
    AgreeOutside [.link, .awStatus, .awCell, .req, .param .announce] r
      { r with link, awStatus, awCell, req, param7 } := by
  have hparam (j : Level) :
      j = .announce ∨ r.param j = Regs.param { r with link, awStatus, awCell, req, param7 } j := by
    cases j with
    | announce => exact .inl rfl
    | stateChange | heartbeat | cellDetail | status | regAck | timeSync => exact .inr rfl
  simpa [agreeOutside_iff] using hparam

/-- R233, R35: `SOFT_RESET` lists every register. -/
theorem mem_stateWritten_softReset (a : ArgZ) (n : RegName) : n ∈ stateWritten (.softReset a) := by
  cases n with
  | param k => cases k <;> simp [stateWritten]
  | cfg | req | awStatus | awCell | link | crc | xsum => simp [stateWritten]

/-- Whatever state the outcome `o` is, it has the registers of `s` outside `w`. -/
def WritesOnly (w : List RegName) (s : State) (o : Result) : Prop := ∀ t, o = .next t → AgreeOutside w s.regs t.regs

section WritesOnly

variable {w : List RegName} {s : State} {r : Regs} {res : Word} {st : Status}

theorem WritesOnly.respond (h : AgreeOutside w s.regs r) : WritesOnly w s (respond s r res st) :=
  fun _ ht => respond_next ht ▸ h

theorem WritesOnly.keep : WritesOnly w s (Machine.respond s s.regs res st) := .respond agreeOutside_rfl

theorem WritesOnly.refuse : WritesOnly w s (refuse s st res) := .keep

theorem WritesOnly.ite {c : Prop} [Decidable c] {x y : Result} (hx : WritesOnly w s x) (hy : WritesOnly w s y) :
    WritesOnly w s (if c then x else y) := by
  split
  · exact hx
  · exact hy

/-- A command that makes one check and writes `r` when it passes. -/
theorem WritesOnly.checked {c : Prop} [Decidable c] {info : Word} {e : Status} (h : AgreeOutside w s.regs r) :
    WritesOnly w s (if c then Machine.refuse s e info else Machine.respond s r res st) := .ite .refuse (.respond h)

theorem WritesOnly.request {k : Level} {bad gated : Bool} {v : Half} :
    WritesOnly [.req, .param k] s (request k bad gated v s) :=
  .ite .refuse (.ite .refuse (.ite .refuse
    (.ite (.respond (agreeOutside_latch _ k v)) (.respond (agreeOutside_latch _ k v)))))

theorem WritesOnly.csrRead (a : ArgCR) : WritesOnly w s (execCsrRead a s) := by
  refine .ite .refuse ?_
  cases csrValue s.regs a.index with
  | some v => exact .keep
  | none => exact .refuse

theorem WritesOnly.arbTick (a : ArgT) : WritesOnly [.req, .awStatus, .awCell] s (execArbTick a s) := by
  refine .ite .refuse (.ite .refuse ?_)
  cases sel s.regs.req with
  | none => exact .keep
  | some k =>
    exact .ite (.respond (agreeOutside_grant _ k)) (.ite (.respond (agreeOutside_clearReq _ k)) .refuse)

end WritesOnly

/-- The commands are grouped by the checks that stand before their `respond` and by what it writes. -/
theorem exec_writesOnly_stateWritten (i : Instr) (s : State) : WritesOnly (stateWritten i) s (exec i s) := by
  cases i with
  | nop a | encStd a | encSd a | midClass a | crcRead a | xorRead a | decKey a => exact .checked agreeOutside_rfl
  | encKey a | decSd a => exact .ite .refuse (.checked agreeOutside_rfl)
  | crcCheck a | xorCheck a => exact .ite .refuse (.ite .keep .refuse)
  | decStd a => exact .ite .keep (.ite .keep .refuse)
  | csrRead a => exact .csrRead a
  | softReset a => exact .checked fun n hn => absurd (mem_stateWritten_softReset a n) hn
  | reqState a | reqHeartbeat a | reqCell a | reqStatus a | reqRegack a | reqTimesync a | reqAnnounce a =>
    exact .request
  | arbTick a => exact .arbTick a
  | linkUp a => exact .ite .refuse (.ite .keep (.respond (agreeOutside_linkUp _ _ _ _ _ _)))
  | csrWrite a =>
    exact .ite .refuse (.checked (by simp [agreeOutside_iff, stateWritten, param_of_update]))
  | crcWord a | xorWord a => exact .respond (by simp [agreeOutside_iff, stateWritten, param_of_update])
  | awaitClrStatus a | awaitClrCell a | awaitClrModule a | linkDown a | crcInit a | crcLoad a | crcByte a | xorInit a
  | xorByte a => exact .checked (by simp [agreeOutside_iff, stateWritten, param_of_update])

/-- A command of U3 lists no other register than `CRC` and `XSUM`. -/
theorem stateWritten_subset_of_checksum {i : Instr} (h : unitOf i = .checksum) : stateWritten i ⊆ [.crc, .xsum] := by
  cases i <;> cases h <;> simp [stateWritten]

/-- A command outside U3 that is no `SOFT_RESET` lists neither of the two. -/
theorem checksums_not_mem_stateWritten {i : Instr} (h : unitOf i ≠ .checksum) (hreset : ∀ a, i ≠ .softReset a) :
    .crc ∉ stateWritten i ∧ .xsum ∉ stateWritten i := by
  cases i with
  | softReset a => exact absurd rfl (hreset a)
  | crcInit | crcLoad | crcByte | crcWord | crcRead | crcCheck | xorInit | xorByte | xorWord | xorRead | xorCheck =>
    exact absurd rfl h
  | _ => simp [stateWritten]

/-- Settles O44: every command writes only what it lists, and the two clauses of R208 (f) are read off the lists. -/
theorem commandsWriteOnlyTheirListedRegisters : Obligations.CommandsWriteOnlyTheirListedRegisters := by
  refine ⟨fun i s t n h => exec_writesOnly_stateWritten i s t h n, fun i s t h hu => ?_, fun i s t h hu hreset => ?_⟩
  · have hkept (n : RegName) (hn : n ∉ [.crc, .xsum]) : s.regs.Agree n t.regs :=
      exec_writesOnly_stateWritten i s t h n fun hw => hn (stateWritten_subset_of_checksum hu hw)
    exact ⟨(hkept .cfg (by simp)).symm, (hkept .req (by simp)).symm, fun k _ => (hkept (.param k) (by simp)).symm,
      (hkept .awStatus (by simp)).symm, (hkept .awCell (by simp)).symm, (hkept .link (by simp)).symm⟩
  · obtain ⟨hcrc, hxsum⟩ := checksums_not_mem_stateWritten hu hreset
    have hkept := exec_writesOnly_stateWritten i s t h
    exact ⟨(hkept .crc hcrc).symm, (hkept .xsum hxsum).symm⟩

/-! ### The rules of the CRC commands (R190 to R198) -/

theorem eq_rev16_of_bits {poly q : Half} (h : ∀ i, i < 16 → q.getLsbD i = poly.getLsbD (15 - i)) : q = rev16 poly :=
  BitVec.eq_of_getLsbD_eq fun i hi => (h i hi).trans (getLsbD_rev16 poly hi).symm

/-- Settles O25: `repeatStep` iterates the one-bit step, and the sixteen bits fix the reversed polynomial. -/
theorem crcUpdateIsTheBitwiseLoop : Obligations.CrcUpdateIsTheBitwiseLoop := by
  refine ⟨by decide, fun p crc b => ⟨fun hr => ?_, fun hr q hq => ?_⟩⟩
  · simp only [crcUpdate, hr, repeatStep_eq_iterate]
    rfl
  · obtain rfl := eq_rev16_of_bits hq
    simp only [crcUpdate, hr, repeatStep_eq_iterate]
    rfl

/-- A command that checks its must-be-zero bits first answers `E_BAD_ARG` when one is set, and writes nothing. -/
theorem refused_of_mbz {w : Nat} {mbz : BitVec w} (s : State) (o : Result) (h : mbz ≠ 0) :
    (if mbzSet mbz then refuse s .eBadArg 0 else o) = .next (s.answered s.regs 0 .eBadArg) :=
  if_pos ((mbzSet_eq_true_iff mbz).2 h)

/-- Settles O26, by the must-be-zero check. -/
theorem crcInitAndLoadSetTheAccumulator : Obligations.CrcInitAndLoadSetTheAccumulator :=
  ⟨fun arg => decode_append_of_make rfl (congrArg _ (argZ_ofArg arg)), fun _ => decode_append_of_make rfl rfl, fun s =>
    ⟨rfl, fun _ hm => refused_of_mbz s _ hm, fun _ => ⟨rfl, fun _ hm => refused_of_mbz s _ hm⟩⟩⟩

/-- Settles O27, by the must-be-zero check; the five values of R195 evaluate. -/
theorem crcByteFeedsOneByte : Obligations.CrcByteFeedsOneByte :=
  ⟨fun _ => decode_append_of_make rfl rfl, fun s _ => ⟨rfl, fun _ hm => refused_of_mbz s _ hm⟩, by decide⟩

/-- Settles O28: the four bytes are fed one after the other. -/
theorem crcWordFeedsFourBytesInOrder : Obligations.CrcWordFeedsFourBytesInOrder := by
  refine ⟨fun _ => decode_append_of_make rfl rfl, ?_⟩
  rintro s b0 b1 b2 b3 c rfl
  rfl

/-- Settles O29, by the must-be-zero check. -/
theorem crcReadGivesRawAndFinal : Obligations.CrcReadGivesRawAndFinal :=
  ⟨fun arg => decode_append_of_make rfl (congrArg _ (argZ_ofArg arg)), fun s =>
    ⟨rfl, fun _ hm => refused_of_mbz s _ hm⟩⟩

/-- Settles O30, by the must-be-zero check and then the comparison. -/
theorem crcCheckComparesTheFinalValue : Obligations.CrcCheckComparesTheFinalValue := by
  refine ⟨fun _ => decode_append_of_make rfl rfl, fun s v mbz => ⟨?_, ?_, fun hm => refused_of_mbz s _ hm⟩⟩
  · rintro rfl hv
    exact if_pos (beq_iff_eq.2 hv)
  · rintro rfl hv
    exact if_neg (mt beq_iff_eq.1 hv)

/-! ### The rules of the XOR-8 commands (R201 to R205) -/

/-- Settles O31, by the must-be-zero check. -/
theorem xorInitAndByteFollowTheRule : Obligations.XorInitAndByteFollowTheRule :=
  ⟨fun arg => decode_append_of_make rfl (congrArg _ (argZ_ofArg arg)), fun _ => decode_append_of_make rfl rfl, fun s =>
    ⟨rfl, fun _ hm => refused_of_mbz s _ hm, fun _ => ⟨rfl, fun _ hm => refused_of_mbz s _ hm⟩⟩⟩

/-- Settles O32: the four bytes are fed one after the other. -/
theorem xorWordFeedsFourBytes : Obligations.XorWordFeedsFourBytes :=
  ⟨fun _ => decode_append_of_make rfl rfl, fun _ _ _ _ _ => rfl⟩

/-- Settles O33, by the must-be-zero check and then the comparison. -/
theorem xorReadAndCheckFollowTheRule : Obligations.XorReadAndCheckFollowTheRule :=
  ⟨fun arg => decode_append_of_make rfl (congrArg _ (argZ_ofArg arg)), fun _ => decode_append_of_make rfl rfl, fun s =>
    ⟨rfl, fun _ hm => refused_of_mbz s _ hm, if_pos (beq_self_eq_true _),
      fun _ hv => if_neg (mt beq_iff_eq.1 hv), fun _ _ hm => refused_of_mbz s _ hm⟩⟩

end Sys2Proof.Proofs

/-! PROOFS of the statements on the system commands (spec/43_system.md R230 to R233). First the answers of `CSR_READ` in
terms of the index map and the refusals of `CSR_WRITE`, then the rule of each command. -/

namespace Sys2Proof.Proofs

open Sys2Proof.Machine Sys2Proof.Laws

/-! ### The answers of the two register commands (R231, R232) -/

section Csr

variable {s : State} {index : BitVec 4}

theorem exec_csrRead_ok {v : Word} (h : csrValue s.regs index = some v) :
    exec (.csrRead ⟨index, 0⟩) s = .next (s.answered s.regs v .ok) := by
  simp [exec, execCsrRead, mbzSet, respond_eq, h]

theorem exec_csrRead_reserved (h : 14 ≤ index.toNat) :
    exec (.csrRead ⟨index, 0⟩) s = .next (s.answered s.regs 0 .eBadArg) := by
  simp [exec, execCsrRead, mbzSet, refuse_eq, (csrValue_eq_none_iff s.regs index).2 h]

/-- The must-be-zero check and the index check refuse alike, so their order does not show. -/
theorem exec_csrWrite_badArg {mbzLo : BitVec 4} {value : Byte} {mbz : BitVec 16}
    (h : index ≠ 0 ∨ mbzLo ≠ 0 ∨ mbz ≠ 0) :
    exec (.csrWrite ⟨index, mbzLo, value, mbz⟩) s = .next (s.answered s.regs 0 .eBadArg) := by
  by_cases hmbz : (mbzSet mbz || mbzSet mbzLo) = true
  · exact if_pos hmbz
  · have hindex : index ≠ 0 := by
      simp only [Bool.or_eq_true, mbzSet_eq_true_iff] at hmbz
      exact h.resolve_right (mt Or.symm hmbz)
    exact (if_neg hmbz).trans (if_pos (bne_iff_ne.2 hindex))

end Csr

/-! ### The rules of the system commands -/

/-- Settles O1, by the must-be-zero check. -/
theorem nopDoesNothing : Obligations.NopDoesNothing :=
  ⟨fun arg => decode_append_of_make rfl (congrArg _ (argZ_ofArg arg)), fun s =>
    ⟨rfl, fun _ hm => refused_of_mbz s _ hm⟩⟩

/-- Settles O2: the value of each of the indices 0 to 13 is read off the index map, and 14 and 15 are reserved in it. -/
theorem csrReadGivesTheRegister : Obligations.CsrReadGivesTheRegister := by
  refine ⟨fun _ => decode_append_of_make rfl rfl, fun s => ?_⟩
  iterate 14 refine ⟨exec_csrRead_ok rfl, ?_⟩
  exact ⟨exec_csrRead_reserved (by decide), exec_csrRead_reserved (by decide), fun _ _ hm => refused_of_mbz s _ hm⟩

/-- Settles O3: index 0 passes both checks, and everything else fails one of them. -/
theorem csrWriteWritesOnlyCfg : Obligations.CsrWriteWritesOnlyCfg :=
  ⟨fun _ => decode_append_of_make rfl rfl, fun _ _ => ⟨rfl, fun _ _ _ h => exec_csrWrite_badArg h⟩⟩

/-- Settles O4, by the must-be-zero check; the reset registers are those of the table of R35. -/
theorem softResetRestoresEveryRegister : Obligations.SoftResetRestoresEveryRegister :=
  ⟨fun arg => decode_append_of_make rfl (congrArg _ (argZ_ofArg arg)), fun s =>
    ⟨rfl, fun _ hm => refused_of_mbz s _ hm⟩⟩

end Sys2Proof.Proofs

/-! PROOFS of the statements on the responses (spec/60_exceptions.md R250 to R254). First the codes and the response
word, then what one answer of a command may be, the same of every command, and from it the two statements on refusals
and on the table of R252. -/

namespace Sys2Proof.Proofs

open Sys2Proof.Machine Sys2Proof.Laws

/-! ### The status codes and the response word (R250, R71) -/

/-- The statuses in the order of the table of R250. -/
def allStatuses : List Status :=
  [.ok, .okAliased, .okCoalesced, .okIdle, .txDropped, .eIllegalOp, .eBadArg, .eUnknownId, .eGated, .eLinkDown,
    .eTxBusy, .eBadCrc, .eBadChecksum]

theorem mem_allStatuses (st : Status) : st ∈ allStatuses := by
  cases st <;> decide

theorem allStatuses_codes_nodup : (allStatuses.map Status.code).Nodup := by decide

theorem statusCode_injective {a b : Status} (h : a.code = b.code) : a = b :=
  List.inj_on_of_nodup_map allStatuses_codes_nodup (mem_allStatuses a) (mem_allStatuses b) h

/-- Bit 7 is the top bit of the code. -/
theorem isError_iff (st : Status) : st.isError = true ↔ 0x80 ≤ st.code.toNat := by
  rw [Status.isError, ← BitVec.msb_eq_getLsbD_last, BitVec.msb_eq_decide, decide_eq_true_iff]

/-- R70, R71: a response word is packed as a command word is, the status in the place of the operation code. -/
theorem responseWord_eq_packWord (r : Response) : r.word = packWord r.st.code r.res := rfl

/-- Settles O43: the codes are read off the table, and the response word is read as a command word. -/
theorem statusCodesAreTheListedOnes : Obligations.StatusCodesAreTheListedOnes := by
  refine ⟨rfl, fun _ _ => statusCode_injective, isError_iff, fun r => ?_⟩
  rw [responseWord_eq_packWord]
  exact ⟨opOf_packWord _ _, argOf_packWord _ _⟩

/-! ### What an answer may be (R252 to R254) -/

/-- R253: an error carries the result 0, except for the grant word of a busy tick and the fixed results of the two
mismatches. -/
def ErrorResult (st : Status) (res : Word) : Prop :=
  res = 0 ∨ st = .eTxBusy ∨ (st = .eBadCrc ∧ res = 0x20) ∨ (st = .eBadChecksum ∧ res = 1)

/-- If the outcome `o` of a command begun in `s` answers, then with a status of the list `sts`, and with an error only
if no register has changed and the result is one that the error may carry. -/
def AnswersWithin (sts : List Status) (s : State) (o : Result) : Prop :=
  ∀ (t : State) (resp : Response), o = .next t → t.responses = s.responses ++ [resp] →
    resp.st ∈ sts ∧ (resp.st.isError = true → t.regs = s.regs ∧ ErrorResult resp.st resp.res)

section AnswersWithin

variable {sts : List Status} {s : State} {r : Regs} {res : Word} {st : Status}

/-- A `respond` gives the one response it names, so a condition on it is a condition on that response. -/
theorem AnswersWithin.of_respond (hst : st ∈ sts)
    (herr : st.isError = true → r = s.regs ∧ ErrorResult st res) : AnswersWithin sts s (respond s r res st) := by
  intro t resp ht hresp
  obtain rfl := respond_next ht
  obtain rfl : ⟨res, st⟩ = resp := by simpa [State.answered] using hresp
  exact ⟨hst, herr⟩

/-- The end of a performed command: its status is no error, so nothing is asked of the registers. -/
theorem AnswersWithin.respond (hst : st ∈ sts := by simp [statusesOf]) (hok : st.isError = false := by rfl) :
    AnswersWithin sts s (respond s r res st) :=
  .of_respond hst fun herr => absurd (hok.symm.trans herr) Bool.false_ne_true

/-- The end of a refused command: the registers are those before it (R13). -/
theorem AnswersWithin.refuse (hres : ErrorResult st res := by exact .inl rfl)
    (hst : st ∈ sts := by simp [statusesOf]) : AnswersWithin sts s (refuse s st res) :=
  .of_respond hst fun _ => ⟨rfl, hres⟩

theorem AnswersWithin.ite {c : Prop} [Decidable c] {x y : Result} (hx : AnswersWithin sts s x)
    (hy : AnswersWithin sts s y) : AnswersWithin sts s (if c then x else y) := by
  split
  · exact hx
  · exact hy

/-- R143: the row of a request lists four statuses, and `E_GATED` too unless the request has no gate (R144). -/
theorem AnswersWithin.request {k : Level} {bad gated : Bool} {v : Half}
    (hsts : [.ok, .okCoalesced, .eBadArg, .eLinkDown] ⊆ sts) (hgate : .eGated ∈ sts ∨ gated = false) :
    AnswersWithin sts s (request k bad gated v s) := by
  refine .ite (.refuse (hst := hsts (by simp))) (.ite (.refuse (hst := hsts (by simp))) ?_)
  split
  · next hgated => exact .refuse (hst := hgate.resolve_right (by simp [hgated]))
  · exact .ite (.respond (hsts (by simp))) (.respond (hsts (by simp)))

theorem AnswersWithin.csrRead (a : ArgCR) : AnswersWithin (statusesOf (.csrRead a)) s (execCsrRead a s) := by
  refine .ite .refuse ?_
  cases csrValue s.regs a.index with
  | some v => exact .respond
  | none => exact .refuse

/-- R154: the refused try is the one error that carries the grant word. -/
theorem AnswersWithin.arbTick (a : ArgT) : AnswersWithin (statusesOf (.arbTick a)) s (execArbTick a s) := by
  refine .ite .refuse (.ite .refuse ?_)
  cases sel s.regs.req with
  | none => exact .respond
  | some k => exact .ite .respond (.ite .respond (.refuse (.inr (.inl rfl))))

end AnswersWithin

/-- R252 row by row, and R253, R254 with it. The commands are grouped by the checks that stand before their
`respond`. -/
theorem exec_answersWithin_statusesOf (i : Instr) (s : State) : AnswersWithin (statusesOf i) s (exec i s) := by
  cases i with
  | crcWord a | xorWord a => exact .respond
  | nop a | softReset a | encStd a | encSd a | midClass a | awaitClrStatus a | awaitClrCell a | awaitClrModule a
  | linkDown a | crcInit a | crcLoad a | crcByte a | crcRead a | xorInit a | xorByte a | xorRead a | decKey a =>
    exact .ite .refuse .respond
  | csrWrite a | encKey a | decSd a => exact .ite .refuse (.ite .refuse .respond)
  | crcCheck a => exact .ite .refuse (.ite .respond (.refuse (.inr (.inr (.inl ⟨rfl, rfl⟩)))))
  | xorCheck a => exact .ite .refuse (.ite .respond (.refuse (.inr (.inr (.inr ⟨rfl, rfl⟩)))))
  | decStd a => exact .ite .respond (.ite .respond .refuse)
  | linkUp a => exact .ite .refuse (.ite .respond .respond)
  | csrRead a => exact .csrRead a
  | arbTick a => exact .arbTick a
  | reqCell a | reqStatus a => exact .request (by simp [statusesOf]) (.inl (by simp [statusesOf]))
  | reqState a | reqHeartbeat a | reqRegack a | reqTimesync a | reqAnnounce a =>
    exact .request (by simp [statusesOf]) (.inr rfl)

/-! ### The step (R75, R252 to R254) -/

/-- The first row of R252: a word whose operation code is outside the map. -/
theorem step_answersWithin_illegalOp {s : State} {cw : CmdWord} {rest : List CmdWord} {why : DecodeError}
    (hp : s.pending = cw :: rest) (hd : decode cw = .error why) : AnswersWithin [.eIllegalOp] s (step s) := by
  rw [step_of_decode_error hp hd]
  exact AnswersWithin.refuse (s := { s with pending := rest })

/-- A step that gives a response has taken a word from the port, and the response is within the list of some row. -/
theorem exists_step_answersWithin (s : State) : ∃ sts, AnswersWithin sts s (step s) := by
  cases hp : s.pending with
  | nil =>
    refine ⟨[], fun t resp ht hresp => ?_⟩
    rw [step_of_pending_nil hp] at ht
    cases ht
    simp at hresp
  | cons cw rest =>
    cases hd : decode cw with
    | error why => exact ⟨_, step_answersWithin_illegalOp hp hd⟩
    | ok i =>
      rw [step_of_decode_ok hp hd]
      exact ⟨statusesOf i, exec_answersWithin_statusesOf i { s with pending := rest }⟩

/-- Settles O41: whatever the row, an answer within it leaves the registers and carries a listed result when it is an
error. -/
theorem refusedCommandChangesNoRegister : Obligations.RefusedCommandChangesNoRegister := by
  intro s t resp ht hresp herr
  obtain ⟨sts, hsts⟩ := exists_step_answersWithin s
  obtain ⟨-, hrefused⟩ := hsts t resp ht hresp
  exact hrefused herr

/-- Settles O42, by the row of each command and the row of the illegal operation codes. -/
theorem eachCommandReturnsItsListedStatuses : Obligations.EachCommandReturnsItsListedStatuses := by
  refine ⟨fun i s t resp ht hresp => ?_, fun s t cw rest resp hp hdec ht hresp => ?_⟩
  · obtain ⟨hst, -⟩ := exec_answersWithin_statusesOf i s t resp ht hresp
    exact hst
  · cases hd : decode cw with
    | ok i => exact absurd hd (hdec i)
    | error why =>
      obtain ⟨hst, -⟩ := step_answersWithin_illegalOp hp hd t resp ht hresp
      exact List.mem_singleton.1 hst

end Sys2Proof.Proofs
